-- ==== Sys2Proof/Word.lean ====
section
/-! DEFINITION. The words of BPENC: bytes of the slab store, slots of the input register, command words, engine
selects, and the byte count of a number of bits (spec/00_scope.md R6, R8; spec/30_encoding.md R70, R78). -/

namespace Sys2Proof

/-- A byte of the slab store or of the byte sequence (R8). -/
abbrev Byte := BitVec 8

/-- One slot of the input register, `SLOT_BITS` = 32 bits, unsigned (R6, R21). -/
abbrev Slot := BitVec 32

/-- The input register: eight slots (R21). -/
abbrev Slots := Vector Slot 8

/-- A command word, `CMD_BITS` = 35 bits (R6, R70). -/
abbrev CmdWord := BitVec 35

/-- The arbiter's select input, the six bits of `bw` (R78). -/
abbrev Select := BitVec 6

/-- `total_values`, `out_idx` and every size response, `TV_BITS` = 64 bits (R6, R77). -/
abbrev Word64 := BitVec 64

/-- `ceil8(n)`: the whole bytes that hold `n` bits (R8, R160). -/
def ceil8 (n : Nat) : Nat := (n + 7) / 8

end Sys2Proof
end

