-- ==== Sys2Proof/Machine/PackersW01W12.lean ====
section
/-! DEFINITION. The packer engines of widths 1 to 12 (spec/41_packers_w01_w12.md, rules R101 to R112), in the
wiring form of each rule: the leftmost item of a line lands in bit 7 of its byte, `extractLsb h l` is the
rule's slice `[h:l]`, and the bytes stand in ascending address order. -/

namespace Sys2Proof.Machine

/-- Engine PACK8.W1, wiring form (R101). -/
def pack8w1 (v : Slots) : List Byte :=
  [ v[0].extractLsb 0 0 ++ v[1].extractLsb 0 0 ++ v[2].extractLsb 0 0 ++ v[3].extractLsb 0 0 ++ v[4].extractLsb 0 0 ++ v[5].extractLsb 0 0 ++ v[6].extractLsb 0 0 ++ v[7].extractLsb 0 0 ]

/-- Engine PACK8.W2, wiring form (R102). -/
def pack8w2 (v : Slots) : List Byte :=
  [ v[0].extractLsb 1 0 ++ v[1].extractLsb 1 0 ++ v[2].extractLsb 1 0 ++ v[3].extractLsb 1 0,
    v[4].extractLsb 1 0 ++ v[5].extractLsb 1 0 ++ v[6].extractLsb 1 0 ++ v[7].extractLsb 1 0 ]

/-- Engine PACK8.W3, wiring form (R103). -/
def pack8w3 (v : Slots) : List Byte :=
  [ v[0].extractLsb 2 0 ++ v[1].extractLsb 2 0 ++ v[2].extractLsb 2 1,
    v[2].extractLsb 0 0 ++ v[3].extractLsb 2 0 ++ v[4].extractLsb 2 0 ++ v[5].extractLsb 2 2,
    v[5].extractLsb 1 0 ++ v[6].extractLsb 2 0 ++ v[7].extractLsb 2 0 ]

/-- Engine PACK8.W4, wiring form (R104). -/
def pack8w4 (v : Slots) : List Byte :=
  [ v[0].extractLsb 3 0 ++ v[1].extractLsb 3 0,
    v[2].extractLsb 3 0 ++ v[3].extractLsb 3 0,
    v[4].extractLsb 3 0 ++ v[5].extractLsb 3 0,
    v[6].extractLsb 3 0 ++ v[7].extractLsb 3 0 ]

/-- Engine PACK8.W5, wiring form (R105). -/
def pack8w5 (v : Slots) : List Byte :=
  [ v[0].extractLsb 4 0 ++ v[1].extractLsb 4 2,
    v[1].extractLsb 1 0 ++ v[2].extractLsb 4 0 ++ v[3].extractLsb 4 4,
    v[3].extractLsb 3 0 ++ v[4].extractLsb 4 1,
    v[4].extractLsb 0 0 ++ v[5].extractLsb 4 0 ++ v[6].extractLsb 4 3,
    v[6].extractLsb 2 0 ++ v[7].extractLsb 4 0 ]

/-- Engine PACK8.W6, wiring form (R106). -/
def pack8w6 (v : Slots) : List Byte :=
  [ v[0].extractLsb 5 0 ++ v[1].extractLsb 5 4,
    v[1].extractLsb 3 0 ++ v[2].extractLsb 5 2,
    v[2].extractLsb 1 0 ++ v[3].extractLsb 5 0,
    v[4].extractLsb 5 0 ++ v[5].extractLsb 5 4,
    v[5].extractLsb 3 0 ++ v[6].extractLsb 5 2,
    v[6].extractLsb 1 0 ++ v[7].extractLsb 5 0 ]

/-- Engine PACK8.W7, wiring form (R107). -/
def pack8w7 (v : Slots) : List Byte :=
  [ v[0].extractLsb 6 0 ++ v[1].extractLsb 6 6,
    v[1].extractLsb 5 0 ++ v[2].extractLsb 6 5,
    v[2].extractLsb 4 0 ++ v[3].extractLsb 6 4,
    v[3].extractLsb 3 0 ++ v[4].extractLsb 6 3,
    v[4].extractLsb 2 0 ++ v[5].extractLsb 6 2,
    v[5].extractLsb 1 0 ++ v[6].extractLsb 6 1,
    v[6].extractLsb 0 0 ++ v[7].extractLsb 6 0 ]

/-- Engine PACK8.W8, wiring form (R108). -/
def pack8w8 (v : Slots) : List Byte :=
  [ v[0].extractLsb 7 0,
    v[1].extractLsb 7 0,
    v[2].extractLsb 7 0,
    v[3].extractLsb 7 0,
    v[4].extractLsb 7 0,
    v[5].extractLsb 7 0,
    v[6].extractLsb 7 0,
    v[7].extractLsb 7 0 ]

/-- Engine PACK8.W9, wiring form (R109). -/
def pack8w9 (v : Slots) : List Byte :=
  [ v[0].extractLsb 8 1,
    v[0].extractLsb 0 0 ++ v[1].extractLsb 8 2,
    v[1].extractLsb 1 0 ++ v[2].extractLsb 8 3,
    v[2].extractLsb 2 0 ++ v[3].extractLsb 8 4,
    v[3].extractLsb 3 0 ++ v[4].extractLsb 8 5,
    v[4].extractLsb 4 0 ++ v[5].extractLsb 8 6,
    v[5].extractLsb 5 0 ++ v[6].extractLsb 8 7,
    v[6].extractLsb 6 0 ++ v[7].extractLsb 8 8,
    v[7].extractLsb 7 0 ]

/-- Engine PACK8.W10, wiring form (R110). -/
def pack8w10 (v : Slots) : List Byte :=
  [ v[0].extractLsb 9 2,
    v[0].extractLsb 1 0 ++ v[1].extractLsb 9 4,
    v[1].extractLsb 3 0 ++ v[2].extractLsb 9 6,
    v[2].extractLsb 5 0 ++ v[3].extractLsb 9 8,
    v[3].extractLsb 7 0,
    v[4].extractLsb 9 2,
    v[4].extractLsb 1 0 ++ v[5].extractLsb 9 4,
    v[5].extractLsb 3 0 ++ v[6].extractLsb 9 6,
    v[6].extractLsb 5 0 ++ v[7].extractLsb 9 8,
    v[7].extractLsb 7 0 ]

/-- Engine PACK8.W11, wiring form (R111). -/
def pack8w11 (v : Slots) : List Byte :=
  [ v[0].extractLsb 10 3,
    v[0].extractLsb 2 0 ++ v[1].extractLsb 10 6,
    v[1].extractLsb 5 0 ++ v[2].extractLsb 10 9,
    v[2].extractLsb 8 1,
    v[2].extractLsb 0 0 ++ v[3].extractLsb 10 4,
    v[3].extractLsb 3 0 ++ v[4].extractLsb 10 7,
    v[4].extractLsb 6 0 ++ v[5].extractLsb 10 10,
    v[5].extractLsb 9 2,
    v[5].extractLsb 1 0 ++ v[6].extractLsb 10 5,
    v[6].extractLsb 4 0 ++ v[7].extractLsb 10 8,
    v[7].extractLsb 7 0 ]

/-- Engine PACK8.W12, wiring form (R112). -/
def pack8w12 (v : Slots) : List Byte :=
  [ v[0].extractLsb 11 4,
    v[0].extractLsb 3 0 ++ v[1].extractLsb 11 8,
    v[1].extractLsb 7 0,
    v[2].extractLsb 11 4,
    v[2].extractLsb 3 0 ++ v[3].extractLsb 11 8,
    v[3].extractLsb 7 0,
    v[4].extractLsb 11 4,
    v[4].extractLsb 3 0 ++ v[5].extractLsb 11 8,
    v[5].extractLsb 7 0,
    v[6].extractLsb 11 4,
    v[6].extractLsb 3 0 ++ v[7].extractLsb 11 8,
    v[7].extractLsb 7 0 ]

end Sys2Proof.Machine
end

