-- ==== Sys2Proof/Machine/PackersW13W20.lean ====
section
/-! DEFINITION. The packer engines of widths 13 to 20 (spec/42_packers_w13_w20.md, rules R113 to R120), in the
wiring form of each rule: the leftmost item of a line lands in bit 7 of its byte, `extractLsb h l` is the
rule's slice `[h:l]`, and the bytes stand in ascending address order. -/

namespace Sys2Proof.Machine

/-- Engine PACK8.W13, wiring form (R113). -/
def pack8w13 (v : Slots) : List Byte :=
  [ v[0].extractLsb 12 5,
    v[0].extractLsb 4 0 ++ v[1].extractLsb 12 10,
    v[1].extractLsb 9 2,
    v[1].extractLsb 1 0 ++ v[2].extractLsb 12 7,
    v[2].extractLsb 6 0 ++ v[3].extractLsb 12 12,
    v[3].extractLsb 11 4,
    v[3].extractLsb 3 0 ++ v[4].extractLsb 12 9,
    v[4].extractLsb 8 1,
    v[4].extractLsb 0 0 ++ v[5].extractLsb 12 6,
    v[5].extractLsb 5 0 ++ v[6].extractLsb 12 11,
    v[6].extractLsb 10 3,
    v[6].extractLsb 2 0 ++ v[7].extractLsb 12 8,
    v[7].extractLsb 7 0 ]

/-- Engine PACK8.W14, wiring form (R114). -/
def pack8w14 (v : Slots) : List Byte :=
  [ v[0].extractLsb 13 6,
    v[0].extractLsb 5 0 ++ v[1].extractLsb 13 12,
    v[1].extractLsb 11 4,
    v[1].extractLsb 3 0 ++ v[2].extractLsb 13 10,
    v[2].extractLsb 9 2,
    v[2].extractLsb 1 0 ++ v[3].extractLsb 13 8,
    v[3].extractLsb 7 0,
    v[4].extractLsb 13 6,
    v[4].extractLsb 5 0 ++ v[5].extractLsb 13 12,
    v[5].extractLsb 11 4,
    v[5].extractLsb 3 0 ++ v[6].extractLsb 13 10,
    v[6].extractLsb 9 2,
    v[6].extractLsb 1 0 ++ v[7].extractLsb 13 8,
    v[7].extractLsb 7 0 ]

/-- Engine PACK8.W15, wiring form (R115). -/
def pack8w15 (v : Slots) : List Byte :=
  [ v[0].extractLsb 14 7,
    v[0].extractLsb 6 0 ++ v[1].extractLsb 14 14,
    v[1].extractLsb 13 6,
    v[1].extractLsb 5 0 ++ v[2].extractLsb 14 13,
    v[2].extractLsb 12 5,
    v[2].extractLsb 4 0 ++ v[3].extractLsb 14 12,
    v[3].extractLsb 11 4,
    v[3].extractLsb 3 0 ++ v[4].extractLsb 14 11,
    v[4].extractLsb 10 3,
    v[4].extractLsb 2 0 ++ v[5].extractLsb 14 10,
    v[5].extractLsb 9 2,
    v[5].extractLsb 1 0 ++ v[6].extractLsb 14 9,
    v[6].extractLsb 8 1,
    v[6].extractLsb 0 0 ++ v[7].extractLsb 14 8,
    v[7].extractLsb 7 0 ]

/-- Engine PACK8.W16, wiring form (R116). -/
def pack8w16 (v : Slots) : List Byte :=
  [ v[0].extractLsb 15 8,
    v[0].extractLsb 7 0,
    v[1].extractLsb 15 8,
    v[1].extractLsb 7 0,
    v[2].extractLsb 15 8,
    v[2].extractLsb 7 0,
    v[3].extractLsb 15 8,
    v[3].extractLsb 7 0,
    v[4].extractLsb 15 8,
    v[4].extractLsb 7 0,
    v[5].extractLsb 15 8,
    v[5].extractLsb 7 0,
    v[6].extractLsb 15 8,
    v[6].extractLsb 7 0,
    v[7].extractLsb 15 8,
    v[7].extractLsb 7 0 ]

/-- Engine PACK8.W17, wiring form (R117). -/
def pack8w17 (v : Slots) : List Byte :=
  [ v[0].extractLsb 16 9,
    v[0].extractLsb 8 1,
    v[0].extractLsb 0 0 ++ v[1].extractLsb 16 10,
    v[1].extractLsb 9 2,
    v[1].extractLsb 1 0 ++ v[2].extractLsb 16 11,
    v[2].extractLsb 10 3,
    v[2].extractLsb 2 0 ++ v[3].extractLsb 16 12,
    v[3].extractLsb 11 4,
    v[3].extractLsb 3 0 ++ v[4].extractLsb 16 13,
    v[4].extractLsb 12 5,
    v[4].extractLsb 4 0 ++ v[5].extractLsb 16 14,
    v[5].extractLsb 13 6,
    v[5].extractLsb 5 0 ++ v[6].extractLsb 16 15,
    v[6].extractLsb 14 7,
    v[6].extractLsb 6 0 ++ v[7].extractLsb 16 16,
    v[7].extractLsb 15 8,
    v[7].extractLsb 7 0 ]

/-- Engine PACK8.W18, wiring form (R118). -/
def pack8w18 (v : Slots) : List Byte :=
  [ v[0].extractLsb 17 10,
    v[0].extractLsb 9 2,
    v[0].extractLsb 1 0 ++ v[1].extractLsb 17 12,
    v[1].extractLsb 11 4,
    v[1].extractLsb 3 0 ++ v[2].extractLsb 17 14,
    v[2].extractLsb 13 6,
    v[2].extractLsb 5 0 ++ v[3].extractLsb 17 16,
    v[3].extractLsb 15 8,
    v[3].extractLsb 7 0,
    v[4].extractLsb 17 10,
    v[4].extractLsb 9 2,
    v[4].extractLsb 1 0 ++ v[5].extractLsb 17 12,
    v[5].extractLsb 11 4,
    v[5].extractLsb 3 0 ++ v[6].extractLsb 17 14,
    v[6].extractLsb 13 6,
    v[6].extractLsb 5 0 ++ v[7].extractLsb 17 16,
    v[7].extractLsb 15 8,
    v[7].extractLsb 7 0 ]

/-- Engine PACK8.W19, wiring form (R119). -/
def pack8w19 (v : Slots) : List Byte :=
  [ v[0].extractLsb 18 11,
    v[0].extractLsb 10 3,
    v[0].extractLsb 2 0 ++ v[1].extractLsb 18 14,
    v[1].extractLsb 13 6,
    v[1].extractLsb 5 0 ++ v[2].extractLsb 18 17,
    v[2].extractLsb 16 9,
    v[2].extractLsb 8 1,
    v[2].extractLsb 0 0 ++ v[3].extractLsb 18 12,
    v[3].extractLsb 11 4,
    v[3].extractLsb 3 0 ++ v[4].extractLsb 18 15,
    v[4].extractLsb 14 7,
    v[4].extractLsb 6 0 ++ v[5].extractLsb 18 18,
    v[5].extractLsb 17 10,
    v[5].extractLsb 9 2,
    v[5].extractLsb 1 0 ++ v[6].extractLsb 18 13,
    v[6].extractLsb 12 5,
    v[6].extractLsb 4 0 ++ v[7].extractLsb 18 16,
    v[7].extractLsb 15 8,
    v[7].extractLsb 7 0 ]

/-- Engine PACK8.W20, wiring form (R120). -/
def pack8w20 (v : Slots) : List Byte :=
  [ v[0].extractLsb 19 12,
    v[0].extractLsb 11 4,
    v[0].extractLsb 3 0 ++ v[1].extractLsb 19 16,
    v[1].extractLsb 15 8,
    v[1].extractLsb 7 0,
    v[2].extractLsb 19 12,
    v[2].extractLsb 11 4,
    v[2].extractLsb 3 0 ++ v[3].extractLsb 19 16,
    v[3].extractLsb 15 8,
    v[3].extractLsb 7 0,
    v[4].extractLsb 19 12,
    v[4].extractLsb 11 4,
    v[4].extractLsb 3 0 ++ v[5].extractLsb 19 16,
    v[5].extractLsb 15 8,
    v[5].extractLsb 7 0,
    v[6].extractLsb 19 12,
    v[6].extractLsb 11 4,
    v[6].extractLsb 3 0 ++ v[7].extractLsb 19 16,
    v[7].extractLsb 15 8,
    v[7].extractLsb 7 0 ]

end Sys2Proof.Machine
end

