-- ==== Sys2Proof/Machine/PackersW21W26.lean ====
section
/-! DEFINITION. The packer engines of widths 21 to 26 (spec/43_packers_w21_w26.md, rules R121 to R126), in the
wiring form of each rule: the leftmost item of a line lands in bit 7 of its byte, `extractLsb h l` is the
rule's slice `[h:l]`, and the bytes stand in ascending address order. -/

namespace Sys2Proof.Machine

/-- Engine PACK8.W21, wiring form (R121). -/
def pack8w21 (v : Slots) : List Byte :=
  [ v[0].extractLsb 20 13,
    v[0].extractLsb 12 5,
    v[0].extractLsb 4 0 ++ v[1].extractLsb 20 18,
    v[1].extractLsb 17 10,
    v[1].extractLsb 9 2,
    v[1].extractLsb 1 0 ++ v[2].extractLsb 20 15,
    v[2].extractLsb 14 7,
    v[2].extractLsb 6 0 ++ v[3].extractLsb 20 20,
    v[3].extractLsb 19 12,
    v[3].extractLsb 11 4,
    v[3].extractLsb 3 0 ++ v[4].extractLsb 20 17,
    v[4].extractLsb 16 9,
    v[4].extractLsb 8 1,
    v[4].extractLsb 0 0 ++ v[5].extractLsb 20 14,
    v[5].extractLsb 13 6,
    v[5].extractLsb 5 0 ++ v[6].extractLsb 20 19,
    v[6].extractLsb 18 11,
    v[6].extractLsb 10 3,
    v[6].extractLsb 2 0 ++ v[7].extractLsb 20 16,
    v[7].extractLsb 15 8,
    v[7].extractLsb 7 0 ]

/-- Engine PACK8.W22, wiring form (R122). -/
def pack8w22 (v : Slots) : List Byte :=
  [ v[0].extractLsb 21 14,
    v[0].extractLsb 13 6,
    v[0].extractLsb 5 0 ++ v[1].extractLsb 21 20,
    v[1].extractLsb 19 12,
    v[1].extractLsb 11 4,
    v[1].extractLsb 3 0 ++ v[2].extractLsb 21 18,
    v[2].extractLsb 17 10,
    v[2].extractLsb 9 2,
    v[2].extractLsb 1 0 ++ v[3].extractLsb 21 16,
    v[3].extractLsb 15 8,
    v[3].extractLsb 7 0,
    v[4].extractLsb 21 14,
    v[4].extractLsb 13 6,
    v[4].extractLsb 5 0 ++ v[5].extractLsb 21 20,
    v[5].extractLsb 19 12,
    v[5].extractLsb 11 4,
    v[5].extractLsb 3 0 ++ v[6].extractLsb 21 18,
    v[6].extractLsb 17 10,
    v[6].extractLsb 9 2,
    v[6].extractLsb 1 0 ++ v[7].extractLsb 21 16,
    v[7].extractLsb 15 8,
    v[7].extractLsb 7 0 ]

/-- Engine PACK8.W23, wiring form (R123). -/
def pack8w23 (v : Slots) : List Byte :=
  [ v[0].extractLsb 22 15,
    v[0].extractLsb 14 7,
    v[0].extractLsb 6 0 ++ v[1].extractLsb 22 22,
    v[1].extractLsb 21 14,
    v[1].extractLsb 13 6,
    v[1].extractLsb 5 0 ++ v[2].extractLsb 22 21,
    v[2].extractLsb 20 13,
    v[2].extractLsb 12 5,
    v[2].extractLsb 4 0 ++ v[3].extractLsb 22 20,
    v[3].extractLsb 19 12,
    v[3].extractLsb 11 4,
    v[3].extractLsb 3 0 ++ v[4].extractLsb 22 19,
    v[4].extractLsb 18 11,
    v[4].extractLsb 10 3,
    v[4].extractLsb 2 0 ++ v[5].extractLsb 22 18,
    v[5].extractLsb 17 10,
    v[5].extractLsb 9 2,
    v[5].extractLsb 1 0 ++ v[6].extractLsb 22 17,
    v[6].extractLsb 16 9,
    v[6].extractLsb 8 1,
    v[6].extractLsb 0 0 ++ v[7].extractLsb 22 16,
    v[7].extractLsb 15 8,
    v[7].extractLsb 7 0 ]

/-- Engine PACK8.W24, wiring form (R124). -/
def pack8w24 (v : Slots) : List Byte :=
  [ v[0].extractLsb 23 16,
    v[0].extractLsb 15 8,
    v[0].extractLsb 7 0,
    v[1].extractLsb 23 16,
    v[1].extractLsb 15 8,
    v[1].extractLsb 7 0,
    v[2].extractLsb 23 16,
    v[2].extractLsb 15 8,
    v[2].extractLsb 7 0,
    v[3].extractLsb 23 16,
    v[3].extractLsb 15 8,
    v[3].extractLsb 7 0,
    v[4].extractLsb 23 16,
    v[4].extractLsb 15 8,
    v[4].extractLsb 7 0,
    v[5].extractLsb 23 16,
    v[5].extractLsb 15 8,
    v[5].extractLsb 7 0,
    v[6].extractLsb 23 16,
    v[6].extractLsb 15 8,
    v[6].extractLsb 7 0,
    v[7].extractLsb 23 16,
    v[7].extractLsb 15 8,
    v[7].extractLsb 7 0 ]

/-- Engine PACK8.W25, wiring form (R125). -/
def pack8w25 (v : Slots) : List Byte :=
  [ v[0].extractLsb 24 17,
    v[0].extractLsb 16 9,
    v[0].extractLsb 8 1,
    v[0].extractLsb 0 0 ++ v[1].extractLsb 24 18,
    v[1].extractLsb 17 10,
    v[1].extractLsb 9 2,
    v[1].extractLsb 1 0 ++ v[2].extractLsb 24 19,
    v[2].extractLsb 18 11,
    v[2].extractLsb 10 3,
    v[2].extractLsb 2 0 ++ v[3].extractLsb 24 20,
    v[3].extractLsb 19 12,
    v[3].extractLsb 11 4,
    v[3].extractLsb 3 0 ++ v[4].extractLsb 24 21,
    v[4].extractLsb 20 13,
    v[4].extractLsb 12 5,
    v[4].extractLsb 4 0 ++ v[5].extractLsb 24 22,
    v[5].extractLsb 21 14,
    v[5].extractLsb 13 6,
    v[5].extractLsb 5 0 ++ v[6].extractLsb 24 23,
    v[6].extractLsb 22 15,
    v[6].extractLsb 14 7,
    v[6].extractLsb 6 0 ++ v[7].extractLsb 24 24,
    v[7].extractLsb 23 16,
    v[7].extractLsb 15 8,
    v[7].extractLsb 7 0 ]

/-- Engine PACK8.W26, wiring form (R126). -/
def pack8w26 (v : Slots) : List Byte :=
  [ v[0].extractLsb 25 18,
    v[0].extractLsb 17 10,
    v[0].extractLsb 9 2,
    v[0].extractLsb 1 0 ++ v[1].extractLsb 25 20,
    v[1].extractLsb 19 12,
    v[1].extractLsb 11 4,
    v[1].extractLsb 3 0 ++ v[2].extractLsb 25 22,
    v[2].extractLsb 21 14,
    v[2].extractLsb 13 6,
    v[2].extractLsb 5 0 ++ v[3].extractLsb 25 24,
    v[3].extractLsb 23 16,
    v[3].extractLsb 15 8,
    v[3].extractLsb 7 0,
    v[4].extractLsb 25 18,
    v[4].extractLsb 17 10,
    v[4].extractLsb 9 2,
    v[4].extractLsb 1 0 ++ v[5].extractLsb 25 20,
    v[5].extractLsb 19 12,
    v[5].extractLsb 11 4,
    v[5].extractLsb 3 0 ++ v[6].extractLsb 25 22,
    v[6].extractLsb 21 14,
    v[6].extractLsb 13 6,
    v[6].extractLsb 5 0 ++ v[7].extractLsb 25 24,
    v[7].extractLsb 23 16,
    v[7].extractLsb 15 8,
    v[7].extractLsb 7 0 ]

end Sys2Proof.Machine
end

