-- ==== Sys2Proof/Machine/PackersW27W32.lean ====
section
/-! DEFINITION. The packer engines of widths 27 to 32 (spec/44_packers_w27_w32.md, rules R127 to R132), in the
wiring form of each rule: the leftmost item of a line lands in bit 7 of its byte, `extractLsb h l` is the
rule's slice `[h:l]`, and the bytes stand in ascending address order. -/

namespace Sys2Proof.Machine

/-- Engine PACK8.W27, wiring form (R127). -/
def pack8w27 (v : Slots) : List Byte :=
  [ v[0].extractLsb 26 19,
    v[0].extractLsb 18 11,
    v[0].extractLsb 10 3,
    v[0].extractLsb 2 0 ++ v[1].extractLsb 26 22,
    v[1].extractLsb 21 14,
    v[1].extractLsb 13 6,
    v[1].extractLsb 5 0 ++ v[2].extractLsb 26 25,
    v[2].extractLsb 24 17,
    v[2].extractLsb 16 9,
    v[2].extractLsb 8 1,
    v[2].extractLsb 0 0 ++ v[3].extractLsb 26 20,
    v[3].extractLsb 19 12,
    v[3].extractLsb 11 4,
    v[3].extractLsb 3 0 ++ v[4].extractLsb 26 23,
    v[4].extractLsb 22 15,
    v[4].extractLsb 14 7,
    v[4].extractLsb 6 0 ++ v[5].extractLsb 26 26,
    v[5].extractLsb 25 18,
    v[5].extractLsb 17 10,
    v[5].extractLsb 9 2,
    v[5].extractLsb 1 0 ++ v[6].extractLsb 26 21,
    v[6].extractLsb 20 13,
    v[6].extractLsb 12 5,
    v[6].extractLsb 4 0 ++ v[7].extractLsb 26 24,
    v[7].extractLsb 23 16,
    v[7].extractLsb 15 8,
    v[7].extractLsb 7 0 ]

/-- Engine PACK8.W28, wiring form (R128). -/
def pack8w28 (v : Slots) : List Byte :=
  [ v[0].extractLsb 27 20,
    v[0].extractLsb 19 12,
    v[0].extractLsb 11 4,
    v[0].extractLsb 3 0 ++ v[1].extractLsb 27 24,
    v[1].extractLsb 23 16,
    v[1].extractLsb 15 8,
    v[1].extractLsb 7 0,
    v[2].extractLsb 27 20,
    v[2].extractLsb 19 12,
    v[2].extractLsb 11 4,
    v[2].extractLsb 3 0 ++ v[3].extractLsb 27 24,
    v[3].extractLsb 23 16,
    v[3].extractLsb 15 8,
    v[3].extractLsb 7 0,
    v[4].extractLsb 27 20,
    v[4].extractLsb 19 12,
    v[4].extractLsb 11 4,
    v[4].extractLsb 3 0 ++ v[5].extractLsb 27 24,
    v[5].extractLsb 23 16,
    v[5].extractLsb 15 8,
    v[5].extractLsb 7 0,
    v[6].extractLsb 27 20,
    v[6].extractLsb 19 12,
    v[6].extractLsb 11 4,
    v[6].extractLsb 3 0 ++ v[7].extractLsb 27 24,
    v[7].extractLsb 23 16,
    v[7].extractLsb 15 8,
    v[7].extractLsb 7 0 ]

/-- Engine PACK8.W29, wiring form (R129). -/
def pack8w29 (v : Slots) : List Byte :=
  [ v[0].extractLsb 28 21,
    v[0].extractLsb 20 13,
    v[0].extractLsb 12 5,
    v[0].extractLsb 4 0 ++ v[1].extractLsb 28 26,
    v[1].extractLsb 25 18,
    v[1].extractLsb 17 10,
    v[1].extractLsb 9 2,
    v[1].extractLsb 1 0 ++ v[2].extractLsb 28 23,
    v[2].extractLsb 22 15,
    v[2].extractLsb 14 7,
    v[2].extractLsb 6 0 ++ v[3].extractLsb 28 28,
    v[3].extractLsb 27 20,
    v[3].extractLsb 19 12,
    v[3].extractLsb 11 4,
    v[3].extractLsb 3 0 ++ v[4].extractLsb 28 25,
    v[4].extractLsb 24 17,
    v[4].extractLsb 16 9,
    v[4].extractLsb 8 1,
    v[4].extractLsb 0 0 ++ v[5].extractLsb 28 22,
    v[5].extractLsb 21 14,
    v[5].extractLsb 13 6,
    v[5].extractLsb 5 0 ++ v[6].extractLsb 28 27,
    v[6].extractLsb 26 19,
    v[6].extractLsb 18 11,
    v[6].extractLsb 10 3,
    v[6].extractLsb 2 0 ++ v[7].extractLsb 28 24,
    v[7].extractLsb 23 16,
    v[7].extractLsb 15 8,
    v[7].extractLsb 7 0 ]

/-- Engine PACK8.W30, wiring form (R130). -/
def pack8w30 (v : Slots) : List Byte :=
  [ v[0].extractLsb 29 22,
    v[0].extractLsb 21 14,
    v[0].extractLsb 13 6,
    v[0].extractLsb 5 0 ++ v[1].extractLsb 29 28,
    v[1].extractLsb 27 20,
    v[1].extractLsb 19 12,
    v[1].extractLsb 11 4,
    v[1].extractLsb 3 0 ++ v[2].extractLsb 29 26,
    v[2].extractLsb 25 18,
    v[2].extractLsb 17 10,
    v[2].extractLsb 9 2,
    v[2].extractLsb 1 0 ++ v[3].extractLsb 29 24,
    v[3].extractLsb 23 16,
    v[3].extractLsb 15 8,
    v[3].extractLsb 7 0,
    v[4].extractLsb 29 22,
    v[4].extractLsb 21 14,
    v[4].extractLsb 13 6,
    v[4].extractLsb 5 0 ++ v[5].extractLsb 29 28,
    v[5].extractLsb 27 20,
    v[5].extractLsb 19 12,
    v[5].extractLsb 11 4,
    v[5].extractLsb 3 0 ++ v[6].extractLsb 29 26,
    v[6].extractLsb 25 18,
    v[6].extractLsb 17 10,
    v[6].extractLsb 9 2,
    v[6].extractLsb 1 0 ++ v[7].extractLsb 29 24,
    v[7].extractLsb 23 16,
    v[7].extractLsb 15 8,
    v[7].extractLsb 7 0 ]

/-- Engine PACK8.W31, wiring form (R131). -/
def pack8w31 (v : Slots) : List Byte :=
  [ v[0].extractLsb 30 23,
    v[0].extractLsb 22 15,
    v[0].extractLsb 14 7,
    v[0].extractLsb 6 0 ++ v[1].extractLsb 30 30,
    v[1].extractLsb 29 22,
    v[1].extractLsb 21 14,
    v[1].extractLsb 13 6,
    v[1].extractLsb 5 0 ++ v[2].extractLsb 30 29,
    v[2].extractLsb 28 21,
    v[2].extractLsb 20 13,
    v[2].extractLsb 12 5,
    v[2].extractLsb 4 0 ++ v[3].extractLsb 30 28,
    v[3].extractLsb 27 20,
    v[3].extractLsb 19 12,
    v[3].extractLsb 11 4,
    v[3].extractLsb 3 0 ++ v[4].extractLsb 30 27,
    v[4].extractLsb 26 19,
    v[4].extractLsb 18 11,
    v[4].extractLsb 10 3,
    v[4].extractLsb 2 0 ++ v[5].extractLsb 30 26,
    v[5].extractLsb 25 18,
    v[5].extractLsb 17 10,
    v[5].extractLsb 9 2,
    v[5].extractLsb 1 0 ++ v[6].extractLsb 30 25,
    v[6].extractLsb 24 17,
    v[6].extractLsb 16 9,
    v[6].extractLsb 8 1,
    v[6].extractLsb 0 0 ++ v[7].extractLsb 30 24,
    v[7].extractLsb 23 16,
    v[7].extractLsb 15 8,
    v[7].extractLsb 7 0 ]

/-- Engine PACK8.W32, wiring form (R132). -/
def pack8w32 (v : Slots) : List Byte :=
  [ v[0].extractLsb 31 24,
    v[0].extractLsb 23 16,
    v[0].extractLsb 15 8,
    v[0].extractLsb 7 0,
    v[1].extractLsb 31 24,
    v[1].extractLsb 23 16,
    v[1].extractLsb 15 8,
    v[1].extractLsb 7 0,
    v[2].extractLsb 31 24,
    v[2].extractLsb 23 16,
    v[2].extractLsb 15 8,
    v[2].extractLsb 7 0,
    v[3].extractLsb 31 24,
    v[3].extractLsb 23 16,
    v[3].extractLsb 15 8,
    v[3].extractLsb 7 0,
    v[4].extractLsb 31 24,
    v[4].extractLsb 23 16,
    v[4].extractLsb 15 8,
    v[4].extractLsb 7 0,
    v[5].extractLsb 31 24,
    v[5].extractLsb 23 16,
    v[5].extractLsb 15 8,
    v[5].extractLsb 7 0,
    v[6].extractLsb 31 24,
    v[6].extractLsb 23 16,
    v[6].extractLsb 15 8,
    v[6].extractLsb 7 0,
    v[7].extractLsb 31 24,
    v[7].extractLsb 23 16,
    v[7].extractLsb 15 8,
    v[7].extractLsb 7 0 ]

end Sys2Proof.Machine
end

