-- ==== Sys2Proof/Machine/Arbiter.lean ====
section
/-! DEFINITION. The bank of 32 engines and the arbiter's selection of one of them by `bw` (spec/40_packer_contract.md
R90, R94, R95; spec/30_encoding.md R78). -/

namespace Sys2Proof.Machine

/-- The engine of a width, the packer table's `get_packer(W)`; `none` where the table has no engine (R90, R78). -/
def engineOf (W : Nat) : Option (Slots → List Byte) :=
  match W with
  | 1 => some pack8w1
  | 2 => some pack8w2
  | 3 => some pack8w3
  | 4 => some pack8w4
  | 5 => some pack8w5
  | 6 => some pack8w6
  | 7 => some pack8w7
  | 8 => some pack8w8
  | 9 => some pack8w9
  | 10 => some pack8w10
  | 11 => some pack8w11
  | 12 => some pack8w12
  | 13 => some pack8w13
  | 14 => some pack8w14
  | 15 => some pack8w15
  | 16 => some pack8w16
  | 17 => some pack8w17
  | 18 => some pack8w18
  | 19 => some pack8w19
  | 20 => some pack8w20
  | 21 => some pack8w21
  | 22 => some pack8w22
  | 23 => some pack8w23
  | 24 => some pack8w24
  | 25 => some pack8w25
  | 26 => some pack8w26
  | 27 => some pack8w27
  | 28 => some pack8w28
  | 29 => some pack8w29
  | 30 => some pack8w30
  | 31 => some pack8w31
  | 32 => some pack8w32
  | _ => none

end Sys2Proof.Machine
end

