-- ==== Sys2Proof/Config.lean ====
section
/-! DEFINITION. What an instance of BPENC fixes: the parameters `SLAB_SIZE` and `MAX_SLABS` with their constraints, and
the quantities derived from them (spec/00_scope.md R6, R7). The spec leaves no value open in a result, so there is no
free value here; what it leaves open is in notes/assumptions. -/

namespace Sys2Proof

/-- The named parameters of an instance (R6, D7, D8). -/
structure Params where
  /-- `SLAB_SIZE`, the bytes in one slab. -/
  slabSize : Nat
  /-- `MAX_SLABS`, the slabs in the slab store. -/
  maxSlabs : Nat
  deriving DecidableEq, Repr

/-- The document's literal for `SLAB_SIZE`, 8 * 1 048 576 bytes (R6). -/
def defaultSlabSize : Nat := 8388608

/-- The largest bit width, `W_MAX` (R6); `W_MIN` is 1. -/
def maxWidth : Nat := 32

/-- The constraints R6 puts on the parameters; U12 says a model does not instantiate a configuration outside them. -/
def Params.legal (p : Params) : Bool :=
  decide (32 ≤ p.slabSize) && decide (1 ≤ p.maxSlabs) && decide (p.slabSize * p.maxSlabs < 2 ^ 60)

/-- `GPS(W)`, the groups one slab holds (R7). -/
def Params.gps (p : Params) (W : Nat) : Nat := p.slabSize / W

/-- `FILL(W)`, the bytes of a slab that groups can occupy (R7). -/
def Params.fill (p : Params) (W : Nat) : Nat := p.gps W * W

/-- The bytes of the slab store, `MAX_SLABS * SLAB_SIZE` (R50). -/
def Params.storeSize (p : Params) : Nat := p.maxSlabs * p.slabSize

/-- `POS_BITS = ceil(log2(SLAB_SIZE + 1))` (R7), which for a positive `SLAB_SIZE` is the number of binary digits of
`SLAB_SIZE` (log 13). -/
def Params.posBits (p : Params) : Nat := Nat.log2 p.slabSize + 1

end Sys2Proof
end

