-- ==== Sys2Proof/Machine/State.lean ====
section
/-! DEFINITION. The state of BPENC (spec/10_state.md R20 to R31, R36), the reasons a step can stop
(spec/60_exceptions.md R172), the responses (spec/30_encoding.md R77), and the machine right after reset. -/

namespace Sys2Proof.Machine

/-- The lifecycle register `phase` (R24). -/
inductive Phase where
  /-- 0: after reset, no session exists. -/
  | fresh
  /-- 1: WRITE and FINISH are legal. -/
  | opened
  /-- 2: the byte sequence is available. -/
  | finalized
  /-- 3: after the trap NoMem. -/
  | faulted
  deriving DecidableEq, Repr

/-- The two-bit encoding of `phase`, as the status output shows it (R24, R38). -/
def Phase.code (p : Phase) : BitVec 2 :=
  match p with
  | .fresh => 0
  | .opened => 1
  | .finalized => 2
  | .faulted => 3

/-- `err`, the cause of the last trap; the codes 2 and 3 are never written (R25, U11; log 11). -/
inductive TrapCause where
  | none
  | noMem
  deriving DecidableEq, Repr

/-- The two-bit encoding of `err`, as the status output shows it (R25, R38). -/
def TrapCause.code (e : TrapCause) : BitVec 2 :=
  match e with
  | .none => 0
  | .noMem => 1

/-- What a completed command puts on the response port (R77). -/
inductive Response where
  /-- The table's `none`: the command completed, no value. -/
  | done
  /-- `size(n)`, 64 bits. -/
  | size (n : Word64)
  /-- `byte(b, last)`. -/
  | byte (b : Byte) (last : Bool)
  deriving DecidableEq, Repr

/-- The slab store `M` (R31, R50) in one canonical form (`Memory.wf` in Machine/Memory.lean): the bytes that differ from
what an unlisted address reads as, and the slabs that have been zero-filled since reset. -/
structure Memory where
  cells : List Host.Cell
  zeroed : List Nat
  deriving DecidableEq, Repr

/-- Why a step stops. The first five are the spec's violations (R172): the hardware does not detect them, and a model
gives the step the outcome fault with the violation's name. The others are the model's (log 9); no run from a start
state of R190 raises one. All are safe: the model stops where the hardware would go on. -/
inductive Fault where
  /-- The word matches no row of the opcode map (R76). Raised by the step. Safe. -/
  | pvCmd
  /-- The command is not legal in this phase (R159). Raised by WRITE, FINISH, DRAIN, RSIZE, ASIZE. Safe. -/
  | pvPhase
  /-- `W < 1` or `W > 32` (R151). Raised by NEW. Safe. -/
  | pvWidth
  /-- `v >= 2^bw` (R152), or an engine fed such a lane (R91, U2). Raised by WRITE and by an engine. Safe. -/
  | pvRange
  /-- `out_idx >= OutLen` (R156). Raised by DRAIN. Safe. -/
  | pvDrain
  /-- `in_cnt` names no slot (R21 has eight). Raised by WRITE. Safe. -/
  | slotRange
  /-- `bw` selects no engine (R78, R95). Raised by the arbiter. Safe. -/
  | noEngine
  /-- The packer's precondition `off + W <= len(dst)` fails (R91, R96). Raised by the arbiter's write. Safe. -/
  | packWindow
  /-- The access is outside the slab store (R50). Raised by every access to it. Safe. -/
  | storeRange
  /-- The byte read has no value: nothing has written it and its slab was never initialised (R36, U9). Raised by the
  multiplexer's read. Safe. -/
  | unwritten
  deriving DecidableEq, Repr

/-- Why the model has no meaning to give. -/
inductive Refusal where
  /-- An instruction that has no meaning yet. No arm of `exec` answers it. Safe. -/
  | notModelled (mnemonic : String)
  /-- The parameters are outside R6's constraints, so there is no such instance (U12). Raised by the step. Safe. -/
  | illegalParams
  deriving DecidableEq, Repr

/-- The machine: the parameters of the instance (R39; log 1), the eleven items of R20, and the model's own ports. -/
structure State where
  /-- `SLAB_SIZE` and `MAX_SLABS`, which no instruction writes (R6, R39). -/
  params : Params
  /-- `phase`, 2 bits (R24). -/
  phase : Phase
  /-- `err`, 2 bits (R25). -/
  err : TrapCause
  /-- `bw`, the bit width of the session and the arbiter's select (R23). -/
  bw : Select
  /-- `in[0..7]`, the input register (R21). -/
  inReg : Slots
  /-- `in_cnt`, 4 bits: slots filled since the last group-pack (R22). -/
  inCnt : BitVec 4
  /-- `slab_pos`, the slab-position counter (R26). -/
  slabPos : Nat
  /-- `frozen_cnt`, the frozen slabs and the index of the current slab (R27). -/
  frozenCnt : Nat
  /-- `total_values`, the values packed so far (R28). -/
  totalValues : Word64
  /-- `tail_len`, the bytes of the current slab in the byte sequence (R29). -/
  tailLen : Nat
  /-- `out_idx`, the index of the next byte DRAIN delivers (R30). -/
  outIdx : Word64
  /-- `M`, the slab store (R31). -/
  mem : Memory
  /-- The model's own (log 7): the arbiter is asked for one group write outside a command. -/
  grant : Bool
  /-- The model's own (log 5): the command words the host has presented, the next one first. -/
  cmds : List CmdWord
  /-- The model's own (log 6): the responses put on the response port, the oldest first. -/
  responses : List Response
  deriving DecidableEq, Repr

/-- The machine right after reset for an instance with the parameters `p` (R36, R190): phase Fresh, no trap; every
register the spec leaves unspecified at zero (DESIGN CHOICE, log 3); no byte of the slab store holds a value (log 4). -/
def State.resetWith (p : Params) : State where
  params := p
  phase := .fresh
  err := .none
  bw := 0
  inReg := Vector.replicate 8 0
  inCnt := 0
  slabPos := 0
  frozenCnt := 0
  totalValues := 0
  tailLen := 0
  outIdx := 0
  mem := { cells := [], zeroed := [] }
  grant := false
  cmds := []
  responses := []

/-- The machine right after reset, at the default `SLAB_SIZE` (R6) and two slabs (DESIGN CHOICE, log 2). -/
def State.reset : State := State.resetWith { slabSize := defaultSlabSize, maxSlabs := 2 }

end Sys2Proof.Machine
end

