-- ==== Sys2Proof/Machine/Operands.lean ====
section
/-! DEFINITION. The operand forms: NEW's width and WRITE's value, both the 32 bits of `arg` as an unsigned integer
(spec/30_encoding.md R72, R73), and the preconditions the commands put on them (spec/46_encoder_commands.md R151,
R152). -/

namespace Sys2Proof.Machine

/-- NEW's operand as a number (R72). -/
def newWidth (arg : BitVec 32) : Nat := arg.toNat

/-- NEW's precondition `1 <= W <= 32` (R151). -/
def widthLegal (arg : BitVec 32) : Bool := decide (1 ≤ newWidth arg) && decide (newWidth arg ≤ maxWidth)

/-- The six bits NEW stores, `W[5:0]` (R151). -/
def widthBits (arg : BitVec 32) : Select := arg.extractLsb 5 0

/-- The bit width `W` of the session, the content of `bw` (R23). -/
def State.width (s : State) : Nat := s.bw.toNat

/-- WRITE's precondition `v < 2^bw`, with `2^bw` an unbounded number (R152, R160). -/
def valueFits (v : BitVec 32) (s : State) : Bool := decide (v.toNat < 2 ^ s.width)

end Sys2Proof.Machine
end

