-- ==== Sys2Proof/Machine/Flags.lean ====
section
/-! DEFINITION. BPENC has no flags register (spec/10_state.md R33). The conditions a command computes and never stores:
`group_full` and `slab_full` (R33), and the rotation's "no free slab" (spec/45_slab_allocator.md R143). -/

namespace Sys2Proof.Machine

/-- `group_full = (in_cnt = 8)`, tested in WRITE (R33, R152). -/
def groupFull (s : State) : Bool := decide (s.inCnt = 8)

/-- `slab_full = (slab_pos + bw > SLAB_SIZE)`, the rotation test (R33, R141). -/
def slabFull (s : State) : Bool := decide (s.slabPos + s.width > s.params.slabSize)

/-- There is no next slab: `frozen_cnt + 1 = MAX_SLABS` (R143). -/
def noFreeSlab (s : State) : Bool := decide (s.frozenCnt + 1 = s.params.maxSlabs)

end Sys2Proof.Machine
end

