-- ==== Sys2Proof/Machine/Memory.lean ====
section
/-! DEFINITION. The slab store as a list of cells in one canonical form (spec/20_memory.md R50 to R54, R61;
spec/45_slab_allocator.md R140). `S` is `SLAB_SIZE` throughout: it says which slab an address lies in. -/

namespace Sys2Proof.Machine

/-- The byte listed at an address, if one is. -/
def lookupCell : List Host.Cell → Nat → Option Byte
  | [], _ => none
  | (a, b) :: cs, x => if a = x then some b else lookupCell cs x

/-- List a byte at an address, keeping the addresses rising. -/
def insertCell : List Host.Cell → Nat → Byte → List Host.Cell
  | [], x, v => [(x, v)]
  | (a, b) :: cs, x, v =>
    if x < a then (x, v) :: (a, b) :: cs
    else if x = a then (x, v) :: cs
    else (a, b) :: insertCell cs x v

/-- List no byte at an address. -/
def eraseCell (cs : List Host.Cell) (x : Nat) : List Host.Cell := cs.filter fun c => decide (c.1 ≠ x)

/-- Add a slab number to a rising list of them. -/
def insertSlab : List Nat → Nat → List Nat
  | [], k => [k]
  | j :: js, k => if k < j then k :: j :: js else if k = j then j :: js else j :: insertSlab js k

/-- What an unlisted address reads as: 0x00 in a slab that has been zero-filled (R61, U9), no value elsewhere (R36, U8;
log 4). -/
def Memory.background (S : Nat) (m : Memory) (a : Nat) : Option Byte :=
  if m.zeroed.contains (a / S) then some 0 else none

/-- The byte at a linear address, `none` where it holds no value. -/
def Memory.read (S : Nat) (m : Memory) (a : Nat) : Option Byte :=
  match lookupCell m.cells a with
  | some b => some b
  | none => m.background S a

/-- Store one byte; storing what the unlisted address reads as removes the entry. -/
def Memory.writeByte (S : Nat) (m : Memory) (a : Nat) (b : Byte) : Memory :=
  if m.background S a = some b then { m with cells := eraseCell m.cells a }
  else { m with cells := insertCell m.cells a b }

/-- Store a list of bytes at ascending addresses, its head at `a`: the effect of `MemWrite` (R50). -/
def Memory.writeBytes (S : Nat) (m : Memory) (a : Nat) : List Byte → Memory
  | [] => m
  | b :: bs => Memory.writeBytes S (m.writeByte S a b) (a + 1) bs

/-- Zero-fill slab `k` (R140): every byte of the slab reads 0x00 afterwards and no other byte changes (log 15). -/
def Memory.zeroSlab (S : Nat) (m : Memory) (k : Nat) : Memory where
  cells := m.cells.filter fun c => decide (c.1 / S ≠ k)
  zeroed := insertSlab m.zeroed k

/-- The canonical form: addresses and slab numbers strictly rising, no entry equal to what the unlisted address reads
as. -/
abbrev Memory.wf (S : Nat) (m : Memory) : Prop :=
  (m.cells.map Prod.fst).Pairwise (· < ·) ∧ (∀ c ∈ m.cells, m.background S c.1 ≠ some c.2) ∧
    m.zeroed.Pairwise (· < ·)

/-- Every listed byte and every zero-filled slab lies in the slab store of `n` slabs. -/
abbrev Memory.within (S n : Nat) (m : Memory) : Prop :=
  (∀ c ∈ m.cells, c.1 < n * S) ∧ ∀ k ∈ m.zeroed, k < n

end Sys2Proof.Machine
end

