-- ==== Sys2Proof/Machine/Packer.lean ====
section
/-! DEFINITION. The packer contract (spec/40_packer_contract.md R91, R92): the one bit layout every engine follows, as
the formula over bit positions and as the integer identity, and its inverse (spec/95_test_vectors.md section 6). -/

namespace Sys2Proof.Machine

/-- Lane `i` of a group, zero past the eighth. -/
def lane (v : Slots) (i : Nat) : Slot := v[i]?.getD 0

/-- Bit `p` of the bit stream of a group (R92): value `v[p div W]`, most significant bit first. -/
def streamBit (W : Nat) (v : Slots) (p : Nat) : Bool := (lane v (p / W)).getLsbD (W - 1 - p % W)

/-- A byte from its bits, the first bit the most significant (R92). -/
def byteOfBits (f : Nat → Bool) : Byte :=
  BitVec.ofBool (f 0) ++ BitVec.ofBool (f 1) ++ BitVec.ofBool (f 2) ++ BitVec.ofBool (f 3) ++
    BitVec.ofBool (f 4) ++ BitVec.ofBool (f 5) ++ BitVec.ofBool (f 6) ++ BitVec.ofBool (f 7)

/-- Byte `k` of a packed group: stream positions `8k` to `8k + 7` (R92). -/
def packByte (W : Nat) (v : Slots) (k : Nat) : Byte := byteOfBits fun q => streamBit W v (8 * k + q)

/-- `PackGeneric(W, v)`: the `W` bytes of a group (R92). -/
def packGeneric (W : Nat) (v : Slots) : List Byte := (List.range W).map (packByte W v)

/-- The number `v[0]*2^(7W) + v[1]*2^(6W) + ... + v[7]` of R92. -/
def groupNumber (W : Nat) (v : Slots) : Nat := (v.toList.map BitVec.toNat).foldl (fun n x => n * 2 ^ W + x) 0

/-- A byte list read as one number, the first byte the most significant (R92, 95 section 6). -/
def bytesNumber (bs : List Byte) : Nat := bs.foldl (fun n b => n * 256 + b.toNat) 0

/-- Every lane fits the width: the packer's precondition (R91). -/
def lanesFit (W : Nat) (v : Slots) : Bool := decide (∀ i : Fin 8, (v[i]).toNat < 2 ^ W)

/-- `Unpack8(W, out)` of 95_test_vectors.md section 6. -/
def unpack8 (W : Nat) (out : List Byte) : List Nat :=
  (List.range 8).map fun i => bytesNumber out / 2 ^ (W * (7 - i)) % 2 ^ W

/-- `UnpackSeq(W, n, seq)` of 95_test_vectors.md section 6. -/
def unpackSeq (W n : Nat) (seq : List Byte) : List Nat :=
  (List.range n).map fun i => bytesNumber seq / 2 ^ (8 * seq.length - (i + 1) * W) % 2 ^ W

end Sys2Proof.Machine
end

