-- ==== Sys2Proof/Machine/Ops.lean ====
section
/-! DEFINITION. The operations the commands share: access to the slab store (spec/20_memory.md R50, R51), the arbiter's
write (spec/40_packer_contract.md R95, R96), slab initialisation and rotation (spec/45_slab_allocator.md R140 to R143),
taking the trap NoMem (spec/60_exceptions.md R175), the group-pack step (spec/46_encoder_commands.md R153) and the output
multiplexer (R155). There is no return from a trap (R176): NEW starts a new session from any phase. -/

namespace Sys2Proof.Machine

/-- The outcome of a micro-operation, the three of R10: it completed, it took the trap (nothing of the command runs after
that), or it is a violation. -/
inductive Micro where
  | ok (s : State)
  | trap (s : State)
  | violate (f : Fault)
  deriving DecidableEq, Repr

/-- Go on with the next statement of a command, unless it trapped or was a violation (R9, R150). -/
def Micro.bind (m : Micro) (k : State → Micro) : Micro :=
  match m with
  | .ok s => k s
  | .trap s => .trap s
  | .violate f => .violate f

/-- `respond`: the end of a command. A completed command puts one response on the response port; a trap puts none
(R77, R150, R175). -/
def Micro.respond (m : Micro) (r : State → Response) : Host.Outcome State Fault Refusal :=
  match m with
  | .ok s => .next { s with responses := s.responses ++ [r s] }
  | .trap s => .next s
  | .violate f => .fault f

/-- The end of an engine operation, which is no command and has no response (R77, R91). -/
def Micro.silent (m : Micro) : Host.Outcome State Fault Refusal :=
  match m with
  | .ok s => .next s
  | .trap s => .next s
  | .violate f => .fault f

/-- `SlabAddr(s, o)` (R51). -/
def slabAddr (s : State) (k o : Nat) : Nat := k * s.params.slabSize + o

/-- `CurBase`, the base of the current slab (R51). -/
def curBase (s : State) : Nat := slabAddr s s.frozenCnt 0

/-- The linear address the next group goes to, `CurBase + slab_pos` (R96). -/
def groupAddr (s : State) : Nat := curBase s + s.slabPos

/-- The byte of `M` at a linear address, if it holds a value. -/
def readByte (s : State) (a : Nat) : Option Byte := s.mem.read s.params.slabSize a

/-- `MemRead(a, 1)[0]`: an address outside the store does not exist (R50), a byte without a value cannot be read. -/
def memReadByte (s : State) (a : Nat) : Except Fault Byte :=
  if a < s.params.storeSize then
    match readByte s a with
    | some b => .ok b
    | none => .error .unwritten
  else .error .storeRange

/-- `MemWrite(a, n, bs)` for the `n` bytes `bs` (R50). -/
def memWrite (a : Nat) (bs : List Byte) (s : State) : Micro :=
  if a + bs.length ≤ s.params.storeSize then
    .ok { s with mem := s.mem.writeBytes s.params.slabSize a bs }
  else .violate .storeRange

/-- The arbiter's write through the engine of width `W` (R91, R95, R96): both preconditions of the packer contract, then
`MemWrite(CurBase + slab_pos, W, out)`. -/
def engineWrite (W : Nat) (pack : Slots → List Byte) (s : State) : Micro :=
  if lanesFit W s.inReg = false then .violate .pvRange
  else if s.slabPos + W > s.params.slabSize then .violate .packWindow
  else memWrite (groupAddr s) (pack s.inReg) s

/-- The arbiter grants the write port to the engine whose index equals `bw` (R95). -/
def arbiterWrite (s : State) : Micro :=
  match engineOf s.width with
  | some pack => engineWrite s.width pack s
  | none => .violate .noEngine

/-- `InitSlab`: zero-fill slab `frozen_cnt` and return `slab_pos` to 0 (R140). -/
def initSlab (s : State) : Micro :=
  if curBase s + s.params.slabSize ≤ s.params.storeSize then
    .ok { s with mem := s.mem.zeroSlab s.params.slabSize s.frozenCnt, slabPos := 0 }
  else .violate .storeRange

/-- Taking the trap NoMem: `phase <- Fault`, `err <- 1`, nothing saved and nothing else changed (R171, R175). -/
def raiseNoMem (s : State) : Micro := .trap { s with phase := .faulted, err := .noMem }

/-- `Rotate`: freeze the current slab and start the next, or trap (R142, R143). -/
def rotate (s : State) : Micro :=
  if noFreeSlab s then raiseNoMem s
  else initSlab { s with frozenCnt := s.frozenCnt + 1 }

/-- The slot write of WRITE, `in[in_cnt] <- v` (R152). -/
def writeSlot (v : BitVec 32) (s : State) : Micro :=
  if h : s.inCnt.toNat < 8 then .ok { s with inReg := s.inReg.set s.inCnt.toNat v h }
  else .violate .slotRange

/-- Slots `c` to 7 set to zero: FINISH's zero fill (R154). -/
def zeroFrom (c : Nat) (v : Slots) : Slots := Vector.ofFn fun i => if c ≤ i.val then 0 else v[i]

/-- `PackGroup(c)`: pack the input register as one group of which `c` values are real (R153). -/
def packGroup (c : Nat) (s : State) : Micro :=
  (arbiterWrite s).bind fun t =>
    .ok { t with slabPos := t.slabPos + t.width, totalValues := t.totalValues + BitVec.ofNat 64 c, inCnt := 0 }

/-- The end of a WRITE that filled the input register: pack the group, then rotate if the slab is full (R152). -/
def closeGroup (s : State) : Micro :=
  (packGroup 8 s).bind fun t => if slabFull t then rotate t else .ok t

/-- FINISH's flush of `c` waiting values; nothing when none waits (R154). -/
def flush (c : Nat) (s : State) : Micro :=
  if 0 < c then packGroup c { s with inReg := zeroFrom c s.inReg } else .ok s

/-- `FILL(bw)` of the session (R7). -/
def fillOf (s : State) : Nat := s.params.fill s.width

/-- `OutLen`, the length of the byte sequence (R155). -/
def outLen (s : State) : Nat := s.frozenCnt * fillOf s + s.tailLen

/-- The multiplexer's address of byte `i` of the byte sequence (R155). -/
def outAddr (s : State) (i : Nat) : Nat :=
  if i / fillOf s < s.frozenCnt then slabAddr s (i / fillOf s) (i % fillOf s)
  else slabAddr s s.frozenCnt (i - s.frozenCnt * fillOf s)

/-- `OutByte(i)` (R155). -/
def outByte (s : State) (i : Nat) : Except Fault Byte := memReadByte s (outAddr s i)

/-- `OutSeq`, the byte sequence, each byte with the value it holds (R155). -/
def outSeq (s : State) : List (Option Byte) := (List.range (outLen s)).map fun i => readByte s (outAddr s i)

/-- The reported size, `ceil8(total_values * bw)`, computed without wrap (R157, R160). -/
def reportedSize (s : State) : Nat := ceil8 (s.totalValues.toNat * s.width)

/-- The bytes of the input register, `8 * sizeof(int32)` (R158, D24). -/
def inputRegisterBytes : Nat := 32

/-- The allocated size, `frozen_cnt * SLAB_SIZE + SLAB_SIZE + 32` (R158). -/
def allocatedSize (s : State) : Nat := s.frozenCnt * s.params.slabSize + s.params.slabSize + inputRegisterBytes

/-- A session exists and was not trapped: the phases in which RSIZE and ASIZE are legal (R157, R158). -/
def sessionLive (s : State) : Bool := decide (s.phase = .opened) || decide (s.phase = .finalized)

end Sys2Proof.Machine
end

