-- ==== Sys2Proof/Machine/Commands.lean ====
section
/-! DEFINITION. The six commands of the encoder controller (spec/46_encoder_commands.md R150 to R158), one definition
each. Every one tests its preconditions in the order phase, then operand (spec/60_exceptions.md R174). -/

namespace Sys2Proof.Machine

/-- `NEW W` (R151), legal in every phase; it never traps. -/
def execNew (w : BitVec 32) (s : State) : Host.Outcome State Fault Refusal :=
  if widthLegal w = false then .fault .pvWidth
  else
    ((initSlab { s with bw := widthBits w, inCnt := 0, totalValues := 0, frozenCnt := 0, tailLen := 0, outIdx := 0,
                        err := .none }).bind
      fun t => .ok { t with phase := .opened }).respond fun _ => .done

/-- `WRITE v` (R152), legal in phase Open. -/
def execWrite (v : BitVec 32) (s : State) : Host.Outcome State Fault Refusal :=
  if s.phase ≠ .opened then .fault .pvPhase
  else if valueFits v s = false then .fault .pvRange
  else
    ((writeSlot v s).bind fun t =>
      let u := { t with inCnt := t.inCnt + 1 }
      if groupFull u then closeGroup u else .ok u).respond fun _ => .done

/-- `FINISH` (R154), legal in phase Open; it makes no rotation test and never traps. -/
def execFinish (s : State) : Host.Outcome State Fault Refusal :=
  if s.phase ≠ .opened then .fault .pvPhase
  else
    ((flush s.inCnt.toNat s).bind fun t =>
      .ok { t with tailLen := s.slabPos + ceil8 (s.inCnt.toNat * s.width), outIdx := 0,
                   phase := .finalized }).respond fun t => .size (BitVec.ofNat 64 (outLen t))

/-- `DRAIN` (R156), legal in phase Finalized while a byte is left. -/
def execDrain (s : State) : Host.Outcome State Fault Refusal :=
  if s.phase ≠ .finalized then .fault .pvPhase
  else if outLen s ≤ s.outIdx.toNat then .fault .pvDrain
  else
    match outByte s s.outIdx.toNat with
    | .error f => .fault f
    | .ok b =>
      (Micro.ok { s with outIdx := s.outIdx + 1 }).respond fun _ => .byte b (decide (s.outIdx.toNat + 1 = outLen s))

/-- `RSIZE` (R157), legal in phases Open and Finalized. -/
def execRsize (s : State) : Host.Outcome State Fault Refusal :=
  if sessionLive s = false then .fault .pvPhase
  else (Micro.ok s).respond fun t => .size (BitVec.ofNat 64 (reportedSize t))

/-- `ASIZE` (R158), legal in phases Open and Finalized. -/
def execAsize (s : State) : Host.Outcome State Fault Refusal :=
  if sessionLive s = false then .fault .pvPhase
  else (Micro.ok s).respond fun t => .size (BitVec.ofNat 64 (allocatedSize t))

end Sys2Proof.Machine
end

