-- ==== Sys2Proof/Machine/Engine.lean ====
section
/-! DEFINITION. The 32 packer engines as instructions (spec/40_packer_contract.md R94 to R96, rules R101 to R132): one
group write of the slab store through the engine named. The engine is granted only while `bw` selects it; the output of
an engine that is not selected is discarded and has no effect (R94). An engine writes nothing but its bytes: the
position, the counters and the phase belong to the group-pack step (R153). -/

namespace Sys2Proof.Machine

/-- One engine operation: the write of engine `W` when it is selected, nothing when it is not (R94 to R96). -/
def engineOp (W : Nat) (pack : Slots → List Byte) (s : State) : Host.Outcome State Fault Refusal :=
  if s.width = W then (engineWrite W pack s).silent else .next s

/-- PACK8.W1 (R101). -/
def execPack8w1 (s : State) : Host.Outcome State Fault Refusal := engineOp 1 pack8w1 s

/-- PACK8.W2 (R102). -/
def execPack8w2 (s : State) : Host.Outcome State Fault Refusal := engineOp 2 pack8w2 s

/-- PACK8.W3 (R103). -/
def execPack8w3 (s : State) : Host.Outcome State Fault Refusal := engineOp 3 pack8w3 s

/-- PACK8.W4 (R104). -/
def execPack8w4 (s : State) : Host.Outcome State Fault Refusal := engineOp 4 pack8w4 s

/-- PACK8.W5 (R105). -/
def execPack8w5 (s : State) : Host.Outcome State Fault Refusal := engineOp 5 pack8w5 s

/-- PACK8.W6 (R106). -/
def execPack8w6 (s : State) : Host.Outcome State Fault Refusal := engineOp 6 pack8w6 s

/-- PACK8.W7 (R107). -/
def execPack8w7 (s : State) : Host.Outcome State Fault Refusal := engineOp 7 pack8w7 s

/-- PACK8.W8 (R108). -/
def execPack8w8 (s : State) : Host.Outcome State Fault Refusal := engineOp 8 pack8w8 s

/-- PACK8.W9 (R109). -/
def execPack8w9 (s : State) : Host.Outcome State Fault Refusal := engineOp 9 pack8w9 s

/-- PACK8.W10 (R110). -/
def execPack8w10 (s : State) : Host.Outcome State Fault Refusal := engineOp 10 pack8w10 s

/-- PACK8.W11 (R111). -/
def execPack8w11 (s : State) : Host.Outcome State Fault Refusal := engineOp 11 pack8w11 s

/-- PACK8.W12 (R112). -/
def execPack8w12 (s : State) : Host.Outcome State Fault Refusal := engineOp 12 pack8w12 s

/-- PACK8.W13 (R113). -/
def execPack8w13 (s : State) : Host.Outcome State Fault Refusal := engineOp 13 pack8w13 s

/-- PACK8.W14 (R114). -/
def execPack8w14 (s : State) : Host.Outcome State Fault Refusal := engineOp 14 pack8w14 s

/-- PACK8.W15 (R115). -/
def execPack8w15 (s : State) : Host.Outcome State Fault Refusal := engineOp 15 pack8w15 s

/-- PACK8.W16 (R116). -/
def execPack8w16 (s : State) : Host.Outcome State Fault Refusal := engineOp 16 pack8w16 s

/-- PACK8.W17 (R117). -/
def execPack8w17 (s : State) : Host.Outcome State Fault Refusal := engineOp 17 pack8w17 s

/-- PACK8.W18 (R118). -/
def execPack8w18 (s : State) : Host.Outcome State Fault Refusal := engineOp 18 pack8w18 s

/-- PACK8.W19 (R119). -/
def execPack8w19 (s : State) : Host.Outcome State Fault Refusal := engineOp 19 pack8w19 s

/-- PACK8.W20 (R120). -/
def execPack8w20 (s : State) : Host.Outcome State Fault Refusal := engineOp 20 pack8w20 s

/-- PACK8.W21 (R121). -/
def execPack8w21 (s : State) : Host.Outcome State Fault Refusal := engineOp 21 pack8w21 s

/-- PACK8.W22 (R122). -/
def execPack8w22 (s : State) : Host.Outcome State Fault Refusal := engineOp 22 pack8w22 s

/-- PACK8.W23 (R123). -/
def execPack8w23 (s : State) : Host.Outcome State Fault Refusal := engineOp 23 pack8w23 s

/-- PACK8.W24 (R124). -/
def execPack8w24 (s : State) : Host.Outcome State Fault Refusal := engineOp 24 pack8w24 s

/-- PACK8.W25 (R125). -/
def execPack8w25 (s : State) : Host.Outcome State Fault Refusal := engineOp 25 pack8w25 s

/-- PACK8.W26 (R126). -/
def execPack8w26 (s : State) : Host.Outcome State Fault Refusal := engineOp 26 pack8w26 s

/-- PACK8.W27 (R127). -/
def execPack8w27 (s : State) : Host.Outcome State Fault Refusal := engineOp 27 pack8w27 s

/-- PACK8.W28 (R128). -/
def execPack8w28 (s : State) : Host.Outcome State Fault Refusal := engineOp 28 pack8w28 s

/-- PACK8.W29 (R129). -/
def execPack8w29 (s : State) : Host.Outcome State Fault Refusal := engineOp 29 pack8w29 s

/-- PACK8.W30 (R130). -/
def execPack8w30 (s : State) : Host.Outcome State Fault Refusal := engineOp 30 pack8w30 s

/-- PACK8.W31 (R131). -/
def execPack8w31 (s : State) : Host.Outcome State Fault Refusal := engineOp 31 pack8w31 s

/-- PACK8.W32 (R132). -/
def execPack8w32 (s : State) : Host.Outcome State Fault Refusal := engineOp 32 pack8w32 s

end Sys2Proof.Machine
end

