-- ==== Sys2Proof/Syntax.lean ====
section
/-! DEFINITION. The instructions of BPENC, one constructor per row of spec/opcode_table.json: the six commands of format
CMD (spec/30_encoding.md R71) and the 32 packer engines of format SEL (R78); and the lines of the assembler syntax with
its pseudo-instructions (R79, R80). -/

namespace Sys2Proof

/-- One instruction: a command of the command port, or the packer engine a select value names. -/
inductive Instr where
  /-- `NEW W`: start a session of width `W` (R151); every 32-bit operand decodes (R72). -/
  | new (w : BitVec 32)
  /-- `WRITE v`: append one value (R152); every 32-bit operand decodes (R73). -/
  | write (v : BitVec 32)
  /-- `FINISH`: flush and produce the byte sequence (R154). -/
  | finish
  /-- `RSIZE`: the reported size (R157). -/
  | rsize
  /-- `ASIZE`: the allocated size (R158). -/
  | asize
  /-- `DRAIN`: the next byte of the byte sequence (R156). -/
  | drain
  /-- PACK8.W1: the packer engine of width 1 (R101). -/
  | pack8w1
  /-- PACK8.W2: the packer engine of width 2 (R102). -/
  | pack8w2
  /-- PACK8.W3: the packer engine of width 3 (R103). -/
  | pack8w3
  /-- PACK8.W4: the packer engine of width 4 (R104). -/
  | pack8w4
  /-- PACK8.W5: the packer engine of width 5 (R105). -/
  | pack8w5
  /-- PACK8.W6: the packer engine of width 6 (R106). -/
  | pack8w6
  /-- PACK8.W7: the packer engine of width 7 (R107). -/
  | pack8w7
  /-- PACK8.W8: the packer engine of width 8 (R108). -/
  | pack8w8
  /-- PACK8.W9: the packer engine of width 9 (R109). -/
  | pack8w9
  /-- PACK8.W10: the packer engine of width 10 (R110). -/
  | pack8w10
  /-- PACK8.W11: the packer engine of width 11 (R111). -/
  | pack8w11
  /-- PACK8.W12: the packer engine of width 12 (R112). -/
  | pack8w12
  /-- PACK8.W13: the packer engine of width 13 (R113). -/
  | pack8w13
  /-- PACK8.W14: the packer engine of width 14 (R114). -/
  | pack8w14
  /-- PACK8.W15: the packer engine of width 15 (R115). -/
  | pack8w15
  /-- PACK8.W16: the packer engine of width 16 (R116). -/
  | pack8w16
  /-- PACK8.W17: the packer engine of width 17 (R117). -/
  | pack8w17
  /-- PACK8.W18: the packer engine of width 18 (R118). -/
  | pack8w18
  /-- PACK8.W19: the packer engine of width 19 (R119). -/
  | pack8w19
  /-- PACK8.W20: the packer engine of width 20 (R120). -/
  | pack8w20
  /-- PACK8.W21: the packer engine of width 21 (R121). -/
  | pack8w21
  /-- PACK8.W22: the packer engine of width 22 (R122). -/
  | pack8w22
  /-- PACK8.W23: the packer engine of width 23 (R123). -/
  | pack8w23
  /-- PACK8.W24: the packer engine of width 24 (R124). -/
  | pack8w24
  /-- PACK8.W25: the packer engine of width 25 (R125). -/
  | pack8w25
  /-- PACK8.W26: the packer engine of width 26 (R126). -/
  | pack8w26
  /-- PACK8.W27: the packer engine of width 27 (R127). -/
  | pack8w27
  /-- PACK8.W28: the packer engine of width 28 (R128). -/
  | pack8w28
  /-- PACK8.W29: the packer engine of width 29 (R129). -/
  | pack8w29
  /-- PACK8.W30: the packer engine of width 30 (R130). -/
  | pack8w30
  /-- PACK8.W31: the packer engine of width 31 (R131). -/
  | pack8w31
  /-- PACK8.W32: the packer engine of width 32 (R132). -/
  | pack8w32
  deriving DecidableEq, Repr

/-- The bit width of an engine, `none` for a command: engine PACK8.W`n` has width `n` (R78, R94). -/
def Instr.engineWidth (i : Instr) : Option Nat :=
  match i with
  | .new _ => none
  | .write _ => none
  | .finish => none
  | .rsize => none
  | .asize => none
  | .drain => none
  | .pack8w1 => some 1
  | .pack8w2 => some 2
  | .pack8w3 => some 3
  | .pack8w4 => some 4
  | .pack8w5 => some 5
  | .pack8w6 => some 6
  | .pack8w7 => some 7
  | .pack8w8 => some 8
  | .pack8w9 => some 9
  | .pack8w10 => some 10
  | .pack8w11 => some 11
  | .pack8w12 => some 12
  | .pack8w13 => some 13
  | .pack8w14 => some 14
  | .pack8w15 => some 15
  | .pack8w16 => some 16
  | .pack8w17 => some 17
  | .pack8w18 => some 18
  | .pack8w19 => some 19
  | .pack8w20 => some 20
  | .pack8w21 => some 21
  | .pack8w22 => some 22
  | .pack8w23 => some 23
  | .pack8w24 => some 24
  | .pack8w25 => some 25
  | .pack8w26 => some 26
  | .pack8w27 => some 27
  | .pack8w28 => some 28
  | .pack8w29 => some 29
  | .pack8w30 => some 30
  | .pack8w31 => some 31
  | .pack8w32 => some 32

/-- An instruction as the ports carry it: a command word on the command port (R70), or a value of the arbiter's select
input (R78). -/
inductive TableWord where
  | command (w : CmdWord)
  | select (sel : Select)
  deriving DecidableEq, Repr

/-- One line of assembler text, or one pseudo-instruction, its operands as the numbers written (R79, R80). -/
inductive AsmLine where
  | new (w : Nat)
  | write (v : Nat)
  | finish
  | rsize
  | asize
  | drain
  /-- `ENCODE W, [x0, ..., xn-1]` (R80 (a)). -/
  | encodeSeq (w : Nat) (xs : List Nat)
  /-- `WRITE8 [x0, ..., x7]` (R80 (b)). -/
  | write8 (xs : List Nat)
  /-- `DRAINALL` after a FINISH that answered `size(outLen)` (R80 (c)). -/
  | drainAll (outLen : Nat)
  deriving DecidableEq, Repr

end Sys2Proof
end

