-- ==== Sys2Proof/Machine/Dispatch.lean ====
section
/-! DEFINITION. The meaning of every instruction, one arm per constructor of `Instr` (the dispatch of R150). -/

namespace Sys2Proof.Machine

def exec (i : Instr) (s : State) : Host.Outcome State Fault Refusal :=
  match i with
  | .new w => Sys2Proof.Machine.execNew w s
  | .write v => Sys2Proof.Machine.execWrite v s
  | .finish => Sys2Proof.Machine.execFinish s
  | .rsize => Sys2Proof.Machine.execRsize s
  | .asize => Sys2Proof.Machine.execAsize s
  | .drain => Sys2Proof.Machine.execDrain s
  | .pack8w1 => Sys2Proof.Machine.execPack8w1 s
  | .pack8w2 => Sys2Proof.Machine.execPack8w2 s
  | .pack8w3 => Sys2Proof.Machine.execPack8w3 s
  | .pack8w4 => Sys2Proof.Machine.execPack8w4 s
  | .pack8w5 => Sys2Proof.Machine.execPack8w5 s
  | .pack8w6 => Sys2Proof.Machine.execPack8w6 s
  | .pack8w7 => Sys2Proof.Machine.execPack8w7 s
  | .pack8w8 => Sys2Proof.Machine.execPack8w8 s
  | .pack8w9 => Sys2Proof.Machine.execPack8w9 s
  | .pack8w10 => Sys2Proof.Machine.execPack8w10 s
  | .pack8w11 => Sys2Proof.Machine.execPack8w11 s
  | .pack8w12 => Sys2Proof.Machine.execPack8w12 s
  | .pack8w13 => Sys2Proof.Machine.execPack8w13 s
  | .pack8w14 => Sys2Proof.Machine.execPack8w14 s
  | .pack8w15 => Sys2Proof.Machine.execPack8w15 s
  | .pack8w16 => Sys2Proof.Machine.execPack8w16 s
  | .pack8w17 => Sys2Proof.Machine.execPack8w17 s
  | .pack8w18 => Sys2Proof.Machine.execPack8w18 s
  | .pack8w19 => Sys2Proof.Machine.execPack8w19 s
  | .pack8w20 => Sys2Proof.Machine.execPack8w20 s
  | .pack8w21 => Sys2Proof.Machine.execPack8w21 s
  | .pack8w22 => Sys2Proof.Machine.execPack8w22 s
  | .pack8w23 => Sys2Proof.Machine.execPack8w23 s
  | .pack8w24 => Sys2Proof.Machine.execPack8w24 s
  | .pack8w25 => Sys2Proof.Machine.execPack8w25 s
  | .pack8w26 => Sys2Proof.Machine.execPack8w26 s
  | .pack8w27 => Sys2Proof.Machine.execPack8w27 s
  | .pack8w28 => Sys2Proof.Machine.execPack8w28 s
  | .pack8w29 => Sys2Proof.Machine.execPack8w29 s
  | .pack8w30 => Sys2Proof.Machine.execPack8w30 s
  | .pack8w31 => Sys2Proof.Machine.execPack8w31 s
  | .pack8w32 => Sys2Proof.Machine.execPack8w32 s

end Sys2Proof.Machine
end

