-- ==== Sys2Proof/WellFormed.lean ====
section
/-! DEFINITION. Which terms are well formed. The operands of `Instr` are exactly the 32 bits of `arg`, every value of
which decodes (spec/30_encoding.md R72, R73), so no instruction term is ill formed: the conditions on `W` and `v` are
preconditions of the commands (R151, R152), not of the encoding. What can be ill formed is an assembler line, whose
operands are numbers (R79: one that does not fit 32 bits is refused), and a configuration (R6; `Params.legal`). -/

namespace Sys2Proof

/-- Every instruction term is well formed (R72 to R74, R78); one arm per constructor, so that a new one cannot slip past. -/
def Instr.wellFormed (i : Instr) : Bool :=
  match i with
  | .new _ => true
  | .write _ => true
  | .finish => true
  | .rsize => true
  | .asize => true
  | .drain => true
  | .pack8w1 => true
  | .pack8w2 => true
  | .pack8w3 => true
  | .pack8w4 => true
  | .pack8w5 => true
  | .pack8w6 => true
  | .pack8w7 => true
  | .pack8w8 => true
  | .pack8w9 => true
  | .pack8w10 => true
  | .pack8w11 => true
  | .pack8w12 => true
  | .pack8w13 => true
  | .pack8w14 => true
  | .pack8w15 => true
  | .pack8w16 => true
  | .pack8w17 => true
  | .pack8w18 => true
  | .pack8w19 => true
  | .pack8w20 => true
  | .pack8w21 => true
  | .pack8w22 => true
  | .pack8w23 => true
  | .pack8w24 => true
  | .pack8w25 => true
  | .pack8w26 => true
  | .pack8w27 => true
  | .pack8w28 => true
  | .pack8w29 => true
  | .pack8w30 => true
  | .pack8w31 => true
  | .pack8w32 => true

/-- An operand that does not fit 32 bits cannot be written down (R79). -/
def operandFits (n : Nat) : Bool := decide (n < 2 ^ 32)

/-- An assembler line is well formed when its operands fit 32 bits, and WRITE8 has eight of them (R79, R80). -/
def AsmLine.wellFormed (l : AsmLine) : Bool :=
  match l with
  | .new w => operandFits w
  | .write v => operandFits v
  | .finish => true
  | .rsize => true
  | .asize => true
  | .drain => true
  | .encodeSeq w xs => operandFits w && xs.all operandFits
  | .write8 xs => decide (xs.length = 8) && xs.all operandFits
  | .drainAll _ => true

end Sys2Proof
end

