-- ==== Sys2Proof/Decode.lean ====
section
/-! DEFINITION. Decoding and encoding (spec/30_encoding.md R70 to R78), the opcode table as rows of mask and pattern, and
the assembler's expansion of a line into command words (R79, R80). Decoding is total: a word that matches no row is
refused by name. -/

namespace Sys2Proof

/-- Why a word names no instruction (R74, R76, R78). -/
inductive DecodeError where
  /-- `op` is 0 or 7 (R76). -/
  | reservedOp (op : BitVec 3)
  /-- `op` is 3 to 6 and `arg` is not zero (R74, R76). -/
  | nonzeroArg (op : BitVec 3)
  /-- A select value that selects no engine: 0 or 33 to 63 (R78). -/
  | noEngine (sel : Select)
  deriving DecidableEq, Repr

/-- The field `op`, bits 34:32 (R70). -/
def opField (c : CmdWord) : BitVec 3 := c.extractLsb 34 32

/-- The field `arg`, bits 31:0 (R70). -/
def argField (c : CmdWord) : BitVec 32 := c.extractLsb 31 0

/-- A command word from its two fields (R70; R79 writes it `op << 32 | arg`). -/
def commandWord (op : BitVec 3) (arg : BitVec 32) : CmdWord := op ++ arg

/-- A command without an operand: the word is reserved unless `arg` is all zero (R74). -/
def decodeNoOperand (op : BitVec 3) (arg : BitVec 32) (i : Instr) : Except DecodeError Instr :=
  if arg = 0 then .ok i else .error (.nonzeroArg op)

/-- The command a word of the command port decodes to (R71). -/
def decodeCommand (c : CmdWord) : Except DecodeError Instr :=
  match (opField c).toNat with
  | 1 => .ok (.new (argField c))
  | 2 => .ok (.write (argField c))
  | 3 => decodeNoOperand (opField c) (argField c) .finish
  | 4 => decodeNoOperand (opField c) (argField c) .rsize
  | 5 => decodeNoOperand (opField c) (argField c) .asize
  | 6 => decodeNoOperand (opField c) (argField c) .drain
  | _ => .error (.reservedOp (opField c))

/-- The engine the arbiter's select input names (R78). -/
def decodeSelect (sel : Select) : Except DecodeError Instr :=
  match sel.toNat with
  | 1 => .ok .pack8w1
  | 2 => .ok .pack8w2
  | 3 => .ok .pack8w3
  | 4 => .ok .pack8w4
  | 5 => .ok .pack8w5
  | 6 => .ok .pack8w6
  | 7 => .ok .pack8w7
  | 8 => .ok .pack8w8
  | 9 => .ok .pack8w9
  | 10 => .ok .pack8w10
  | 11 => .ok .pack8w11
  | 12 => .ok .pack8w12
  | 13 => .ok .pack8w13
  | 14 => .ok .pack8w14
  | 15 => .ok .pack8w15
  | 16 => .ok .pack8w16
  | 17 => .ok .pack8w17
  | 18 => .ok .pack8w18
  | 19 => .ok .pack8w19
  | 20 => .ok .pack8w20
  | 21 => .ok .pack8w21
  | 22 => .ok .pack8w22
  | 23 => .ok .pack8w23
  | 24 => .ok .pack8w24
  | 25 => .ok .pack8w25
  | 26 => .ok .pack8w26
  | 27 => .ok .pack8w27
  | 28 => .ok .pack8w28
  | 29 => .ok .pack8w29
  | 30 => .ok .pack8w30
  | 31 => .ok .pack8w31
  | 32 => .ok .pack8w32
  | _ => .error (.noEngine sel)

/-- Decoding of either kind of word. -/
def decode (t : TableWord) : Except DecodeError Instr :=
  match t with
  | .command c => decodeCommand c
  | .select sel => decodeSelect sel

/-- The word of an instruction (R71, R78). -/
def encode (i : Instr) : TableWord :=
  match i with
  | .new w => .command (commandWord 1 w)
  | .write v => .command (commandWord 2 v)
  | .finish => .command (commandWord 3 0)
  | .rsize => .command (commandWord 4 0)
  | .asize => .command (commandWord 5 0)
  | .drain => .command (commandWord 6 0)
  | .pack8w1 => .select 1
  | .pack8w2 => .select 2
  | .pack8w3 => .select 3
  | .pack8w4 => .select 4
  | .pack8w5 => .select 5
  | .pack8w6 => .select 6
  | .pack8w7 => .select 7
  | .pack8w8 => .select 8
  | .pack8w9 => .select 9
  | .pack8w10 => .select 10
  | .pack8w11 => .select 11
  | .pack8w12 => .select 12
  | .pack8w13 => .select 13
  | .pack8w14 => .select 14
  | .pack8w15 => .select 15
  | .pack8w16 => .select 16
  | .pack8w17 => .select 17
  | .pack8w18 => .select 18
  | .pack8w19 => .select 19
  | .pack8w20 => .select 20
  | .pack8w21 => .select 21
  | .pack8w22 => .select 22
  | .pack8w23 => .select 23
  | .pack8w24 => .select 24
  | .pack8w25 => .select 25
  | .pack8w26 => .select 26
  | .pack8w27 => .select 27
  | .pack8w28 => .select 28
  | .pack8w29 => .select 29
  | .pack8w30 => .select 30
  | .pack8w31 => .select 31
  | .pack8w32 => .select 32

/-- A row of the opcode table (R71, R78): a word `c` of the row's format matches when `c & mask = pattern`. -/
structure OpcodeRow where
  mnemonic : String
  /-- The width of the row's words: 35 for format CMD, 6 for format SEL. -/
  bits : Nat
  pattern : Nat
  mask : Nat
  deriving DecidableEq, Repr

/-- The opcode table's row of an instruction. -/
def Instr.row (i : Instr) : OpcodeRow :=
  match i with
  | .new _ => ⟨"NEW", 35, 0x100000000, 0x700000000⟩
  | .write _ => ⟨"WRITE", 35, 0x200000000, 0x700000000⟩
  | .finish => ⟨"FINISH", 35, 0x300000000, 0x7FFFFFFFF⟩
  | .rsize => ⟨"RSIZE", 35, 0x400000000, 0x7FFFFFFFF⟩
  | .asize => ⟨"ASIZE", 35, 0x500000000, 0x7FFFFFFFF⟩
  | .drain => ⟨"DRAIN", 35, 0x600000000, 0x7FFFFFFFF⟩
  | .pack8w1 => ⟨"PACK8.W1", 6, 1, 0x3F⟩
  | .pack8w2 => ⟨"PACK8.W2", 6, 2, 0x3F⟩
  | .pack8w3 => ⟨"PACK8.W3", 6, 3, 0x3F⟩
  | .pack8w4 => ⟨"PACK8.W4", 6, 4, 0x3F⟩
  | .pack8w5 => ⟨"PACK8.W5", 6, 5, 0x3F⟩
  | .pack8w6 => ⟨"PACK8.W6", 6, 6, 0x3F⟩
  | .pack8w7 => ⟨"PACK8.W7", 6, 7, 0x3F⟩
  | .pack8w8 => ⟨"PACK8.W8", 6, 8, 0x3F⟩
  | .pack8w9 => ⟨"PACK8.W9", 6, 9, 0x3F⟩
  | .pack8w10 => ⟨"PACK8.W10", 6, 10, 0x3F⟩
  | .pack8w11 => ⟨"PACK8.W11", 6, 11, 0x3F⟩
  | .pack8w12 => ⟨"PACK8.W12", 6, 12, 0x3F⟩
  | .pack8w13 => ⟨"PACK8.W13", 6, 13, 0x3F⟩
  | .pack8w14 => ⟨"PACK8.W14", 6, 14, 0x3F⟩
  | .pack8w15 => ⟨"PACK8.W15", 6, 15, 0x3F⟩
  | .pack8w16 => ⟨"PACK8.W16", 6, 16, 0x3F⟩
  | .pack8w17 => ⟨"PACK8.W17", 6, 17, 0x3F⟩
  | .pack8w18 => ⟨"PACK8.W18", 6, 18, 0x3F⟩
  | .pack8w19 => ⟨"PACK8.W19", 6, 19, 0x3F⟩
  | .pack8w20 => ⟨"PACK8.W20", 6, 20, 0x3F⟩
  | .pack8w21 => ⟨"PACK8.W21", 6, 21, 0x3F⟩
  | .pack8w22 => ⟨"PACK8.W22", 6, 22, 0x3F⟩
  | .pack8w23 => ⟨"PACK8.W23", 6, 23, 0x3F⟩
  | .pack8w24 => ⟨"PACK8.W24", 6, 24, 0x3F⟩
  | .pack8w25 => ⟨"PACK8.W25", 6, 25, 0x3F⟩
  | .pack8w26 => ⟨"PACK8.W26", 6, 26, 0x3F⟩
  | .pack8w27 => ⟨"PACK8.W27", 6, 27, 0x3F⟩
  | .pack8w28 => ⟨"PACK8.W28", 6, 28, 0x3F⟩
  | .pack8w29 => ⟨"PACK8.W29", 6, 29, 0x3F⟩
  | .pack8w30 => ⟨"PACK8.W30", 6, 30, 0x3F⟩
  | .pack8w31 => ⟨"PACK8.W31", 6, 31, 0x3F⟩
  | .pack8w32 => ⟨"PACK8.W32", 6, 32, 0x3F⟩

/-- The opcode table: the row of every instruction, in the table's order. -/
def opcodeTable : List OpcodeRow :=
  [Instr.row (.new 0), Instr.row (.write 0), Instr.row .finish, Instr.row .rsize, Instr.row .asize, Instr.row .drain] ++
  [Instr.row .pack8w1, Instr.row .pack8w2, Instr.row .pack8w3, Instr.row .pack8w4, Instr.row .pack8w5, Instr.row .pack8w6, Instr.row .pack8w7, Instr.row .pack8w8] ++
  [Instr.row .pack8w9, Instr.row .pack8w10, Instr.row .pack8w11, Instr.row .pack8w12, Instr.row .pack8w13, Instr.row .pack8w14, Instr.row .pack8w15, Instr.row .pack8w16] ++
  [Instr.row .pack8w17, Instr.row .pack8w18, Instr.row .pack8w19, Instr.row .pack8w20, Instr.row .pack8w21, Instr.row .pack8w22, Instr.row .pack8w23, Instr.row .pack8w24] ++
  [Instr.row .pack8w25, Instr.row .pack8w26, Instr.row .pack8w27, Instr.row .pack8w28, Instr.row .pack8w29, Instr.row .pack8w30, Instr.row .pack8w31, Instr.row .pack8w32]

/-- Whether a word matches a row: it is of the row's format and its masked bits are the row's pattern (R71, R78). -/
def OpcodeRow.matchesWord (r : OpcodeRow) (t : TableWord) : Bool :=
  match t with
  | .command c => decide (r.bits = 35) && decide (c &&& BitVec.ofNat 35 r.mask = BitVec.ofNat 35 r.pattern)
  | .select sel => decide (r.bits = 6) && decide (sel &&& BitVec.ofNat 6 r.mask = BitVec.ofNat 6 r.pattern)

/-- The word that `nbits` bits of `w` are in the opcode table's numbering (log 8): the six bits of a SEL row are given
in one byte, a command's 35 bits in five. A number too wide for its format is no word ("a word wider than 35 bits does
not exist", U4). -/
def tableWord (nbits w : Nat) : Option TableWord :=
  if nbits ≤ 8 then
    if w < 2 ^ 6 then some (.select (BitVec.ofNat 6 w)) else none
  else
    if w < 2 ^ 35 then some (.command (BitVec.ofNat 35 w)) else none

/-- The instruction the decoder reads from the bits `w` of an opcode-table row of `nbits` bits. -/
def decodeTableWord (nbits w : Nat) : Option Instr :=
  match tableWord nbits w with
  | none => none
  | some t =>
    match decode t with
    | .ok i => some i
    | .error _ => none

/-- The command words of a session that encodes `xs` at width `w`: the pseudo-instruction ENCODE (R80 (a)). -/
def encodeStream (w : BitVec 32) (xs : List (BitVec 32)) : List CmdWord :=
  commandWord 1 w :: (xs.map (commandWord 2) ++ [commandWord 3 0])

/-- The command words of an assembler line, `none` where the assembler refuses it (R79, R80). -/
def AsmLine.assemble (l : AsmLine) : Option (List CmdWord) :=
  if l.wellFormed then
    match l with
    | .new w => some [commandWord 1 (BitVec.ofNat 32 w)]
    | .write v => some [commandWord 2 (BitVec.ofNat 32 v)]
    | .finish => some [commandWord 3 0]
    | .rsize => some [commandWord 4 0]
    | .asize => some [commandWord 5 0]
    | .drain => some [commandWord 6 0]
    | .encodeSeq w xs => some (encodeStream (BitVec.ofNat 32 w) (xs.map (BitVec.ofNat 32)))
    | .write8 xs => some (xs.map fun v => commandWord 2 (BitVec.ofNat 32 v))
    | .drainAll outLen => some (List.replicate outLen (commandWord 6 0))
  else none

end Sys2Proof
end

