-- ==== Sys2Proof/Machine/Fetch.lean ====
section
/-! DEFINITION. Where a step takes its instruction from. BPENC has no program counter and fetches nothing (spec/10_state.md
R32): a command arrives on the command port from the host, and an engine is selected by `bw` (spec/30_encoding.md R78).
The model holds the words presented and not yet taken in `cmds`, and the request for a lone engine operation in `grant`
(log 5, log 7). -/

namespace Sys2Proof.Machine

/-- What a step finds to do. -/
inductive Fetched where
  /-- No command is presented and nothing is granted: the controller waits for the next command (R175). -/
  | idle
  /-- The word names no instruction (R76, R78). -/
  | reserved (f : Fault)
  /-- An instruction, and the state with its word taken. -/
  | run (i : Instr) (s : State)
  deriving DecidableEq, Repr

/-- Take the engine that `bw` selects and consume the grant (R78, R95). -/
def fetchSelect (s : State) : Fetched :=
  match decodeSelect s.bw with
  | .ok i => .run i { s with grant := false }
  | .error _ => .reserved .noEngine

/-- Take the next command word (R70, R150 (1)). -/
def fetchCommand (s : State) : Fetched :=
  match s.cmds with
  | [] => .idle
  | c :: cs =>
    match decodeCommand c with
    | .ok i => .run i { s with cmds := cs }
    | .error _ => .reserved .pvCmd

/-- What the next step does: a lone grant goes before the command port. -/
def fetch (s : State) : Fetched := if s.grant then fetchSelect s else fetchCommand s

/-- Present a word where the next step takes it: a command in front of the command stream; a select value in `bw`, which
is the arbiter's select input (R78), together with the grant. -/
def presentWord (s : State) (t : TableWord) : State :=
  match t with
  | .command c => { s with grant := false, cmds := c :: s.cmds }
  | .select sel => { s with grant := true, bw := sel }

/-- Present the `nbits` bits `w` of an opcode-table row; a number that is no word of its format changes nothing. -/
def presentTableWord (s : State) (nbits w : Nat) : State :=
  match tableWord nbits w with
  | some t => presentWord s t
  | none => s

end Sys2Proof.Machine
end

