-- ==== Sys2Proof/Machine/Step.lean ====
section
/-! DEFINITION. One step of the machine (spec/46_encoder_commands.md R150): take one command word or one engine select,
decode it, run it. -/

namespace Sys2Proof.Machine

/-- One step. An instance with illegal parameters does not exist (U12). With nothing presented the controller waits and
the state does not change (R173, R175; log 5). -/
def step (s : State) : Host.Outcome State Fault Refusal :=
  if s.params.legal then
    match fetch s with
    | .idle => .next s
    | .reserved f => .fault f
    | .run i t => exec i t
  else .refused .illegalParams

/-- The state with the `nbits` bits `w` of an opcode-table row presented where the next step takes its instruction: the
host's command word at the command port, or the select value in `bw` with the arbiter's grant (log 5, log 7). -/
def State.withFetchWord (s : State) (nbits w : Nat) : State := presentTableWord s nbits w

end Sys2Proof.Machine
end

