-- ==== Sys2Proof/Machine/Assembler.lean ====
section
/-! DEFINITION. The textual form of a command stream (spec/30_encoding.md R79, R80): reading a line as a command or a
pseudo-instruction, and writing a command word in hexadecimal. Text is a list of characters. What R79 leaves open (which
blanks separate, the case of hexadecimal digits) is in log 17. -/

namespace Sys2Proof.Machine

/-- The value of a decimal digit. -/
def decimalDigit (c : Char) : Option Nat :=
  if '0' ≤ c ∧ c ≤ '9' then some (c.toNat - '0'.toNat) else none

/-- The value of a hexadecimal digit, in either case. -/
def hexDigit (c : Char) : Option Nat :=
  if 'A' ≤ c ∧ c ≤ 'F' then some (c.toNat - 'A'.toNat + 10)
  else if 'a' ≤ c ∧ c ≤ 'f' then some (c.toNat - 'a'.toNat + 10)
  else decimalDigit c

/-- Digits read in a base after the number `acc`. -/
def readDigits (base : Nat) (digit : Char → Option Nat) : List Char → Nat → Option Nat
  | [], acc => some acc
  | c :: cs, acc =>
    match digit c with
    | some d => readDigits base digit cs (acc * base + d)
    | none => none

/-- A number: `0x` and hexadecimal digits, or decimal digits; at least one digit (R79). -/
def readNumber (t : List Char) : Option Nat :=
  match t with
  | '0' :: 'x' :: c :: cs => readDigits 16 hexDigit (c :: cs) 0
  | c :: cs => readDigits 10 decimalDigit (c :: cs) 0
  | [] => none

/-- The part of a line before its comment (R79). -/
def stripComment (l : List Char) : List Char := l.takeWhile fun c => decide (c ≠ '#')

/-- A blank between tokens. -/
def isBlank (c : Char) : Bool := decide (c = ' ') || decide (c = '\t')

/-- The punctuation of the pseudo-instructions, each a token of its own. -/
def isPunctuation (c : Char) : Bool := decide (c = ',') || decide (c = '[') || decide (c = ']')

/-- Put the token collected so far before the tokens that follow it. -/
def flushToken (cur : List Char) (ts : List (List Char)) : List (List Char) :=
  match cur with
  | [] => ts
  | _ => cur.reverse :: ts

/-- The tokens of a line; `cur` is the token being collected, its last character first. -/
def tokens : List Char → List Char → List (List Char)
  | [], cur => flushToken cur []
  | c :: cs, cur =>
    if isBlank c then flushToken cur (tokens cs [])
    else if isPunctuation c then flushToken cur ([c] :: tokens cs [])
    else tokens cs (c :: cur)

/-- The numbers of a list after its opening bracket, the closing bracket last (R80). -/
def readList : List (List Char) → Option (List Nat)
  | [[']']] => some []
  | [t, [']']] => (readNumber t).map fun n => [n]
  | t :: [','] :: ts =>
    match readNumber t, readList ts with
    | some n, some (m :: ns) => some (n :: m :: ns)
    | _, _ => none
  | _ => none

/-- A line's tokens as an assembler line: `some none` for a blank line, `none` for a line of no known form (R79, R80).
`outLen` is the `size` answer of the preceding FINISH, which DRAINALL needs (R80 (c)). -/
def readTokens (outLen : Nat) (ts : List (List Char)) : Option (Option AsmLine) :=
  match ts with
  | [] => some none
  | [['N', 'E', 'W'], t] => (readNumber t).map fun n => some (.new n)
  | [['W', 'R', 'I', 'T', 'E'], t] => (readNumber t).map fun n => some (.write n)
  | [['F', 'I', 'N', 'I', 'S', 'H']] => some (some .finish)
  | [['R', 'S', 'I', 'Z', 'E']] => some (some .rsize)
  | [['A', 'S', 'I', 'Z', 'E']] => some (some .asize)
  | [['D', 'R', 'A', 'I', 'N']] => some (some .drain)
  | ['E', 'N', 'C', 'O', 'D', 'E'] :: t :: [','] :: ['['] :: rest =>
    match readNumber t, readList rest with
    | some w, some xs => some (some (.encodeSeq w xs))
    | _, _ => none
  | ['W', 'R', 'I', 'T', 'E', '8'] :: ['['] :: rest => (readList rest).map fun xs => some (.write8 xs)
  | [['D', 'R', 'A', 'I', 'N', 'A', 'L', 'L']] => some (some (.drainAll outLen))
  | _ => none

/-- A line of text as command words, none for a blank line; `none` where the assembler refuses it (R79). -/
def assembleText (outLen : Nat) (l : List Char) : Option (List CmdWord) :=
  match readTokens outLen (tokens (stripComment l) []) with
  | some none => some []
  | some (some line) => line.assemble
  | none => none

/-- A hexadecimal digit as R79 writes it. -/
def hexChar (n : Nat) : Char :=
  if n < 10 then Char.ofNat ('0'.toNat + n) else Char.ofNat ('A'.toNat + (n - 10))

/-- A command word as text: `0x`, the digit of `op`, an underscore, the eight digits of `arg` (R79). -/
def wordText (c : CmdWord) : List Char :=
  ['0', 'x', hexChar (opField c).toNat, '_'] ++
    [7, 6, 5, 4, 3, 2, 1, 0].map fun k => hexChar ((argField c).toNat / 16 ^ k % 16)

end Sys2Proof.Machine
end

