-- ==== Sys2Proof/Machine/PackersShiftOr.lean ====
section
/-! DEFINITION. The second form the spec gives of every engine (spec/41 to 44, rules R101 to R132): the shift and OR
form, every `vi` a 32-bit unsigned word. Nothing executes these; the statements compare them with the wiring form. -/

namespace Sys2Proof.Machine

/-- The byte a shift and OR line stands for: the rule says its value is below 256, "so it is the byte as it stands". -/
def asByte (w : Slot) : Byte := w.setWidth 8

/-- PACK8.W1, shift and OR form (R101), one 32-bit word per output byte. -/
def shiftOr8w1 (v : Slots) : List Slot :=
  [ ((v[0] &&& 0x1) <<< 7) ||| ((v[1] &&& 0x1) <<< 6) ||| ((v[2] &&& 0x1) <<< 5) ||| ((v[3] &&& 0x1) <<< 4) ||| ((v[4] &&& 0x1) <<< 3) ||| ((v[5] &&& 0x1) <<< 2) ||| ((v[6] &&& 0x1) <<< 1) ||| (v[7] &&& 0x1) ]

/-- PACK8.W2, shift and OR form (R102), one 32-bit word per output byte. -/
def shiftOr8w2 (v : Slots) : List Slot :=
  [ ((v[0] &&& 0x3) <<< 6) ||| ((v[1] &&& 0x3) <<< 4) ||| ((v[2] &&& 0x3) <<< 2) ||| (v[3] &&& 0x3),
    ((v[4] &&& 0x3) <<< 6) ||| ((v[5] &&& 0x3) <<< 4) ||| ((v[6] &&& 0x3) <<< 2) ||| (v[7] &&& 0x3) ]

/-- PACK8.W3, shift and OR form (R103), one 32-bit word per output byte. -/
def shiftOr8w3 (v : Slots) : List Slot :=
  [ ((v[0] &&& 0x7) <<< 5) ||| ((v[1] &&& 0x7) <<< 2) ||| ((v[2] >>> 1) &&& 0x3),
    ((v[2] &&& 0x1) <<< 7) ||| ((v[3] &&& 0x7) <<< 4) ||| ((v[4] &&& 0x7) <<< 1) ||| ((v[5] >>> 2) &&& 0x1),
    ((v[5] &&& 0x3) <<< 6) ||| ((v[6] &&& 0x7) <<< 3) ||| (v[7] &&& 0x7) ]

/-- PACK8.W4, shift and OR form (R104), one 32-bit word per output byte. -/
def shiftOr8w4 (v : Slots) : List Slot :=
  [ ((v[0] &&& 0xF) <<< 4) ||| (v[1] &&& 0xF),
    ((v[2] &&& 0xF) <<< 4) ||| (v[3] &&& 0xF),
    ((v[4] &&& 0xF) <<< 4) ||| (v[5] &&& 0xF),
    ((v[6] &&& 0xF) <<< 4) ||| (v[7] &&& 0xF) ]

/-- PACK8.W5, shift and OR form (R105), one 32-bit word per output byte. -/
def shiftOr8w5 (v : Slots) : List Slot :=
  [ ((v[0] &&& 0x1F) <<< 3) ||| ((v[1] >>> 2) &&& 0x7),
    ((v[1] &&& 0x3) <<< 6) ||| ((v[2] &&& 0x1F) <<< 1) ||| ((v[3] >>> 4) &&& 0x1),
    ((v[3] &&& 0xF) <<< 4) ||| ((v[4] >>> 1) &&& 0xF),
    ((v[4] &&& 0x1) <<< 7) ||| ((v[5] &&& 0x1F) <<< 2) ||| ((v[6] >>> 3) &&& 0x3),
    ((v[6] &&& 0x7) <<< 5) ||| (v[7] &&& 0x1F) ]

/-- PACK8.W6, shift and OR form (R106), one 32-bit word per output byte. -/
def shiftOr8w6 (v : Slots) : List Slot :=
  [ ((v[0] &&& 0x3F) <<< 2) ||| ((v[1] >>> 4) &&& 0x3),
    ((v[1] &&& 0xF) <<< 4) ||| ((v[2] >>> 2) &&& 0xF),
    ((v[2] &&& 0x3) <<< 6) ||| (v[3] &&& 0x3F),
    ((v[4] &&& 0x3F) <<< 2) ||| ((v[5] >>> 4) &&& 0x3),
    ((v[5] &&& 0xF) <<< 4) ||| ((v[6] >>> 2) &&& 0xF),
    ((v[6] &&& 0x3) <<< 6) ||| (v[7] &&& 0x3F) ]

/-- PACK8.W7, shift and OR form (R107), one 32-bit word per output byte. -/
def shiftOr8w7 (v : Slots) : List Slot :=
  [ ((v[0] &&& 0x7F) <<< 1) ||| ((v[1] >>> 6) &&& 0x1),
    ((v[1] &&& 0x3F) <<< 2) ||| ((v[2] >>> 5) &&& 0x3),
    ((v[2] &&& 0x1F) <<< 3) ||| ((v[3] >>> 4) &&& 0x7),
    ((v[3] &&& 0xF) <<< 4) ||| ((v[4] >>> 3) &&& 0xF),
    ((v[4] &&& 0x7) <<< 5) ||| ((v[5] >>> 2) &&& 0x1F),
    ((v[5] &&& 0x3) <<< 6) ||| ((v[6] >>> 1) &&& 0x3F),
    ((v[6] &&& 0x1) <<< 7) ||| (v[7] &&& 0x7F) ]

/-- PACK8.W8, shift and OR form (R108), one 32-bit word per output byte. -/
def shiftOr8w8 (v : Slots) : List Slot :=
  [ (v[0] &&& 0xFF),
    (v[1] &&& 0xFF),
    (v[2] &&& 0xFF),
    (v[3] &&& 0xFF),
    (v[4] &&& 0xFF),
    (v[5] &&& 0xFF),
    (v[6] &&& 0xFF),
    (v[7] &&& 0xFF) ]

/-- PACK8.W9, shift and OR form (R109), one 32-bit word per output byte. -/
def shiftOr8w9 (v : Slots) : List Slot :=
  [ ((v[0] >>> 1) &&& 0xFF),
    ((v[0] &&& 0x1) <<< 7) ||| ((v[1] >>> 2) &&& 0x7F),
    ((v[1] &&& 0x3) <<< 6) ||| ((v[2] >>> 3) &&& 0x3F),
    ((v[2] &&& 0x7) <<< 5) ||| ((v[3] >>> 4) &&& 0x1F),
    ((v[3] &&& 0xF) <<< 4) ||| ((v[4] >>> 5) &&& 0xF),
    ((v[4] &&& 0x1F) <<< 3) ||| ((v[5] >>> 6) &&& 0x7),
    ((v[5] &&& 0x3F) <<< 2) ||| ((v[6] >>> 7) &&& 0x3),
    ((v[6] &&& 0x7F) <<< 1) ||| ((v[7] >>> 8) &&& 0x1),
    (v[7] &&& 0xFF) ]

/-- PACK8.W10, shift and OR form (R110), one 32-bit word per output byte. -/
def shiftOr8w10 (v : Slots) : List Slot :=
  [ ((v[0] >>> 2) &&& 0xFF),
    ((v[0] &&& 0x3) <<< 6) ||| ((v[1] >>> 4) &&& 0x3F),
    ((v[1] &&& 0xF) <<< 4) ||| ((v[2] >>> 6) &&& 0xF),
    ((v[2] &&& 0x3F) <<< 2) ||| ((v[3] >>> 8) &&& 0x3),
    (v[3] &&& 0xFF),
    ((v[4] >>> 2) &&& 0xFF),
    ((v[4] &&& 0x3) <<< 6) ||| ((v[5] >>> 4) &&& 0x3F),
    ((v[5] &&& 0xF) <<< 4) ||| ((v[6] >>> 6) &&& 0xF),
    ((v[6] &&& 0x3F) <<< 2) ||| ((v[7] >>> 8) &&& 0x3),
    (v[7] &&& 0xFF) ]

/-- PACK8.W11, shift and OR form (R111), one 32-bit word per output byte. -/
def shiftOr8w11 (v : Slots) : List Slot :=
  [ ((v[0] >>> 3) &&& 0xFF),
    ((v[0] &&& 0x7) <<< 5) ||| ((v[1] >>> 6) &&& 0x1F),
    ((v[1] &&& 0x3F) <<< 2) ||| ((v[2] >>> 9) &&& 0x3),
    ((v[2] >>> 1) &&& 0xFF),
    ((v[2] &&& 0x1) <<< 7) ||| ((v[3] >>> 4) &&& 0x7F),
    ((v[3] &&& 0xF) <<< 4) ||| ((v[4] >>> 7) &&& 0xF),
    ((v[4] &&& 0x7F) <<< 1) ||| ((v[5] >>> 10) &&& 0x1),
    ((v[5] >>> 2) &&& 0xFF),
    ((v[5] &&& 0x3) <<< 6) ||| ((v[6] >>> 5) &&& 0x3F),
    ((v[6] &&& 0x1F) <<< 3) ||| ((v[7] >>> 8) &&& 0x7),
    (v[7] &&& 0xFF) ]

/-- PACK8.W12, shift and OR form (R112), one 32-bit word per output byte. -/
def shiftOr8w12 (v : Slots) : List Slot :=
  [ ((v[0] >>> 4) &&& 0xFF),
    ((v[0] &&& 0xF) <<< 4) ||| ((v[1] >>> 8) &&& 0xF),
    (v[1] &&& 0xFF),
    ((v[2] >>> 4) &&& 0xFF),
    ((v[2] &&& 0xF) <<< 4) ||| ((v[3] >>> 8) &&& 0xF),
    (v[3] &&& 0xFF),
    ((v[4] >>> 4) &&& 0xFF),
    ((v[4] &&& 0xF) <<< 4) ||| ((v[5] >>> 8) &&& 0xF),
    (v[5] &&& 0xFF),
    ((v[6] >>> 4) &&& 0xFF),
    ((v[6] &&& 0xF) <<< 4) ||| ((v[7] >>> 8) &&& 0xF),
    (v[7] &&& 0xFF) ]

/-- PACK8.W13, shift and OR form (R113), one 32-bit word per output byte. -/
def shiftOr8w13 (v : Slots) : List Slot :=
  [ ((v[0] >>> 5) &&& 0xFF),
    ((v[0] &&& 0x1F) <<< 3) ||| ((v[1] >>> 10) &&& 0x7),
    ((v[1] >>> 2) &&& 0xFF),
    ((v[1] &&& 0x3) <<< 6) ||| ((v[2] >>> 7) &&& 0x3F),
    ((v[2] &&& 0x7F) <<< 1) ||| ((v[3] >>> 12) &&& 0x1),
    ((v[3] >>> 4) &&& 0xFF),
    ((v[3] &&& 0xF) <<< 4) ||| ((v[4] >>> 9) &&& 0xF),
    ((v[4] >>> 1) &&& 0xFF),
    ((v[4] &&& 0x1) <<< 7) ||| ((v[5] >>> 6) &&& 0x7F),
    ((v[5] &&& 0x3F) <<< 2) ||| ((v[6] >>> 11) &&& 0x3),
    ((v[6] >>> 3) &&& 0xFF),
    ((v[6] &&& 0x7) <<< 5) ||| ((v[7] >>> 8) &&& 0x1F),
    (v[7] &&& 0xFF) ]

/-- PACK8.W14, shift and OR form (R114), one 32-bit word per output byte. -/
def shiftOr8w14 (v : Slots) : List Slot :=
  [ ((v[0] >>> 6) &&& 0xFF),
    ((v[0] &&& 0x3F) <<< 2) ||| ((v[1] >>> 12) &&& 0x3),
    ((v[1] >>> 4) &&& 0xFF),
    ((v[1] &&& 0xF) <<< 4) ||| ((v[2] >>> 10) &&& 0xF),
    ((v[2] >>> 2) &&& 0xFF),
    ((v[2] &&& 0x3) <<< 6) ||| ((v[3] >>> 8) &&& 0x3F),
    (v[3] &&& 0xFF),
    ((v[4] >>> 6) &&& 0xFF),
    ((v[4] &&& 0x3F) <<< 2) ||| ((v[5] >>> 12) &&& 0x3),
    ((v[5] >>> 4) &&& 0xFF),
    ((v[5] &&& 0xF) <<< 4) ||| ((v[6] >>> 10) &&& 0xF),
    ((v[6] >>> 2) &&& 0xFF),
    ((v[6] &&& 0x3) <<< 6) ||| ((v[7] >>> 8) &&& 0x3F),
    (v[7] &&& 0xFF) ]

/-- PACK8.W15, shift and OR form (R115), one 32-bit word per output byte. -/
def shiftOr8w15 (v : Slots) : List Slot :=
  [ ((v[0] >>> 7) &&& 0xFF),
    ((v[0] &&& 0x7F) <<< 1) ||| ((v[1] >>> 14) &&& 0x1),
    ((v[1] >>> 6) &&& 0xFF),
    ((v[1] &&& 0x3F) <<< 2) ||| ((v[2] >>> 13) &&& 0x3),
    ((v[2] >>> 5) &&& 0xFF),
    ((v[2] &&& 0x1F) <<< 3) ||| ((v[3] >>> 12) &&& 0x7),
    ((v[3] >>> 4) &&& 0xFF),
    ((v[3] &&& 0xF) <<< 4) ||| ((v[4] >>> 11) &&& 0xF),
    ((v[4] >>> 3) &&& 0xFF),
    ((v[4] &&& 0x7) <<< 5) ||| ((v[5] >>> 10) &&& 0x1F),
    ((v[5] >>> 2) &&& 0xFF),
    ((v[5] &&& 0x3) <<< 6) ||| ((v[6] >>> 9) &&& 0x3F),
    ((v[6] >>> 1) &&& 0xFF),
    ((v[6] &&& 0x1) <<< 7) ||| ((v[7] >>> 8) &&& 0x7F),
    (v[7] &&& 0xFF) ]

/-- PACK8.W16, shift and OR form (R116), one 32-bit word per output byte. -/
def shiftOr8w16 (v : Slots) : List Slot :=
  [ ((v[0] >>> 8) &&& 0xFF),
    (v[0] &&& 0xFF),
    ((v[1] >>> 8) &&& 0xFF),
    (v[1] &&& 0xFF),
    ((v[2] >>> 8) &&& 0xFF),
    (v[2] &&& 0xFF),
    ((v[3] >>> 8) &&& 0xFF),
    (v[3] &&& 0xFF),
    ((v[4] >>> 8) &&& 0xFF),
    (v[4] &&& 0xFF),
    ((v[5] >>> 8) &&& 0xFF),
    (v[5] &&& 0xFF),
    ((v[6] >>> 8) &&& 0xFF),
    (v[6] &&& 0xFF),
    ((v[7] >>> 8) &&& 0xFF),
    (v[7] &&& 0xFF) ]

/-- PACK8.W17, shift and OR form (R117), one 32-bit word per output byte. -/
def shiftOr8w17 (v : Slots) : List Slot :=
  [ ((v[0] >>> 9) &&& 0xFF),
    ((v[0] >>> 1) &&& 0xFF),
    ((v[0] &&& 0x1) <<< 7) ||| ((v[1] >>> 10) &&& 0x7F),
    ((v[1] >>> 2) &&& 0xFF),
    ((v[1] &&& 0x3) <<< 6) ||| ((v[2] >>> 11) &&& 0x3F),
    ((v[2] >>> 3) &&& 0xFF),
    ((v[2] &&& 0x7) <<< 5) ||| ((v[3] >>> 12) &&& 0x1F),
    ((v[3] >>> 4) &&& 0xFF),
    ((v[3] &&& 0xF) <<< 4) ||| ((v[4] >>> 13) &&& 0xF),
    ((v[4] >>> 5) &&& 0xFF),
    ((v[4] &&& 0x1F) <<< 3) ||| ((v[5] >>> 14) &&& 0x7),
    ((v[5] >>> 6) &&& 0xFF),
    ((v[5] &&& 0x3F) <<< 2) ||| ((v[6] >>> 15) &&& 0x3),
    ((v[6] >>> 7) &&& 0xFF),
    ((v[6] &&& 0x7F) <<< 1) ||| ((v[7] >>> 16) &&& 0x1),
    ((v[7] >>> 8) &&& 0xFF),
    (v[7] &&& 0xFF) ]

/-- PACK8.W18, shift and OR form (R118), one 32-bit word per output byte. -/
def shiftOr8w18 (v : Slots) : List Slot :=
  [ ((v[0] >>> 10) &&& 0xFF),
    ((v[0] >>> 2) &&& 0xFF),
    ((v[0] &&& 0x3) <<< 6) ||| ((v[1] >>> 12) &&& 0x3F),
    ((v[1] >>> 4) &&& 0xFF),
    ((v[1] &&& 0xF) <<< 4) ||| ((v[2] >>> 14) &&& 0xF),
    ((v[2] >>> 6) &&& 0xFF),
    ((v[2] &&& 0x3F) <<< 2) ||| ((v[3] >>> 16) &&& 0x3),
    ((v[3] >>> 8) &&& 0xFF),
    (v[3] &&& 0xFF),
    ((v[4] >>> 10) &&& 0xFF),
    ((v[4] >>> 2) &&& 0xFF),
    ((v[4] &&& 0x3) <<< 6) ||| ((v[5] >>> 12) &&& 0x3F),
    ((v[5] >>> 4) &&& 0xFF),
    ((v[5] &&& 0xF) <<< 4) ||| ((v[6] >>> 14) &&& 0xF),
    ((v[6] >>> 6) &&& 0xFF),
    ((v[6] &&& 0x3F) <<< 2) ||| ((v[7] >>> 16) &&& 0x3),
    ((v[7] >>> 8) &&& 0xFF),
    (v[7] &&& 0xFF) ]

/-- PACK8.W19, shift and OR form (R119), one 32-bit word per output byte. -/
def shiftOr8w19 (v : Slots) : List Slot :=
  [ ((v[0] >>> 11) &&& 0xFF),
    ((v[0] >>> 3) &&& 0xFF),
    ((v[0] &&& 0x7) <<< 5) ||| ((v[1] >>> 14) &&& 0x1F),
    ((v[1] >>> 6) &&& 0xFF),
    ((v[1] &&& 0x3F) <<< 2) ||| ((v[2] >>> 17) &&& 0x3),
    ((v[2] >>> 9) &&& 0xFF),
    ((v[2] >>> 1) &&& 0xFF),
    ((v[2] &&& 0x1) <<< 7) ||| ((v[3] >>> 12) &&& 0x7F),
    ((v[3] >>> 4) &&& 0xFF),
    ((v[3] &&& 0xF) <<< 4) ||| ((v[4] >>> 15) &&& 0xF),
    ((v[4] >>> 7) &&& 0xFF),
    ((v[4] &&& 0x7F) <<< 1) ||| ((v[5] >>> 18) &&& 0x1),
    ((v[5] >>> 10) &&& 0xFF),
    ((v[5] >>> 2) &&& 0xFF),
    ((v[5] &&& 0x3) <<< 6) ||| ((v[6] >>> 13) &&& 0x3F),
    ((v[6] >>> 5) &&& 0xFF),
    ((v[6] &&& 0x1F) <<< 3) ||| ((v[7] >>> 16) &&& 0x7),
    ((v[7] >>> 8) &&& 0xFF),
    (v[7] &&& 0xFF) ]

/-- PACK8.W20, shift and OR form (R120), one 32-bit word per output byte. -/
def shiftOr8w20 (v : Slots) : List Slot :=
  [ ((v[0] >>> 12) &&& 0xFF),
    ((v[0] >>> 4) &&& 0xFF),
    ((v[0] &&& 0xF) <<< 4) ||| ((v[1] >>> 16) &&& 0xF),
    ((v[1] >>> 8) &&& 0xFF),
    (v[1] &&& 0xFF),
    ((v[2] >>> 12) &&& 0xFF),
    ((v[2] >>> 4) &&& 0xFF),
    ((v[2] &&& 0xF) <<< 4) ||| ((v[3] >>> 16) &&& 0xF),
    ((v[3] >>> 8) &&& 0xFF),
    (v[3] &&& 0xFF),
    ((v[4] >>> 12) &&& 0xFF),
    ((v[4] >>> 4) &&& 0xFF),
    ((v[4] &&& 0xF) <<< 4) ||| ((v[5] >>> 16) &&& 0xF),
    ((v[5] >>> 8) &&& 0xFF),
    (v[5] &&& 0xFF),
    ((v[6] >>> 12) &&& 0xFF),
    ((v[6] >>> 4) &&& 0xFF),
    ((v[6] &&& 0xF) <<< 4) ||| ((v[7] >>> 16) &&& 0xF),
    ((v[7] >>> 8) &&& 0xFF),
    (v[7] &&& 0xFF) ]

/-- PACK8.W21, shift and OR form (R121), one 32-bit word per output byte. -/
def shiftOr8w21 (v : Slots) : List Slot :=
  [ ((v[0] >>> 13) &&& 0xFF),
    ((v[0] >>> 5) &&& 0xFF),
    ((v[0] &&& 0x1F) <<< 3) ||| ((v[1] >>> 18) &&& 0x7),
    ((v[1] >>> 10) &&& 0xFF),
    ((v[1] >>> 2) &&& 0xFF),
    ((v[1] &&& 0x3) <<< 6) ||| ((v[2] >>> 15) &&& 0x3F),
    ((v[2] >>> 7) &&& 0xFF),
    ((v[2] &&& 0x7F) <<< 1) ||| ((v[3] >>> 20) &&& 0x1),
    ((v[3] >>> 12) &&& 0xFF),
    ((v[3] >>> 4) &&& 0xFF),
    ((v[3] &&& 0xF) <<< 4) ||| ((v[4] >>> 17) &&& 0xF),
    ((v[4] >>> 9) &&& 0xFF),
    ((v[4] >>> 1) &&& 0xFF),
    ((v[4] &&& 0x1) <<< 7) ||| ((v[5] >>> 14) &&& 0x7F),
    ((v[5] >>> 6) &&& 0xFF),
    ((v[5] &&& 0x3F) <<< 2) ||| ((v[6] >>> 19) &&& 0x3),
    ((v[6] >>> 11) &&& 0xFF),
    ((v[6] >>> 3) &&& 0xFF),
    ((v[6] &&& 0x7) <<< 5) ||| ((v[7] >>> 16) &&& 0x1F),
    ((v[7] >>> 8) &&& 0xFF),
    (v[7] &&& 0xFF) ]

/-- PACK8.W22, shift and OR form (R122), one 32-bit word per output byte. -/
def shiftOr8w22 (v : Slots) : List Slot :=
  [ ((v[0] >>> 14) &&& 0xFF),
    ((v[0] >>> 6) &&& 0xFF),
    ((v[0] &&& 0x3F) <<< 2) ||| ((v[1] >>> 20) &&& 0x3),
    ((v[1] >>> 12) &&& 0xFF),
    ((v[1] >>> 4) &&& 0xFF),
    ((v[1] &&& 0xF) <<< 4) ||| ((v[2] >>> 18) &&& 0xF),
    ((v[2] >>> 10) &&& 0xFF),
    ((v[2] >>> 2) &&& 0xFF),
    ((v[2] &&& 0x3) <<< 6) ||| ((v[3] >>> 16) &&& 0x3F),
    ((v[3] >>> 8) &&& 0xFF),
    (v[3] &&& 0xFF),
    ((v[4] >>> 14) &&& 0xFF),
    ((v[4] >>> 6) &&& 0xFF),
    ((v[4] &&& 0x3F) <<< 2) ||| ((v[5] >>> 20) &&& 0x3),
    ((v[5] >>> 12) &&& 0xFF),
    ((v[5] >>> 4) &&& 0xFF),
    ((v[5] &&& 0xF) <<< 4) ||| ((v[6] >>> 18) &&& 0xF),
    ((v[6] >>> 10) &&& 0xFF),
    ((v[6] >>> 2) &&& 0xFF),
    ((v[6] &&& 0x3) <<< 6) ||| ((v[7] >>> 16) &&& 0x3F),
    ((v[7] >>> 8) &&& 0xFF),
    (v[7] &&& 0xFF) ]

/-- PACK8.W23, shift and OR form (R123), one 32-bit word per output byte. -/
def shiftOr8w23 (v : Slots) : List Slot :=
  [ ((v[0] >>> 15) &&& 0xFF),
    ((v[0] >>> 7) &&& 0xFF),
    ((v[0] &&& 0x7F) <<< 1) ||| ((v[1] >>> 22) &&& 0x1),
    ((v[1] >>> 14) &&& 0xFF),
    ((v[1] >>> 6) &&& 0xFF),
    ((v[1] &&& 0x3F) <<< 2) ||| ((v[2] >>> 21) &&& 0x3),
    ((v[2] >>> 13) &&& 0xFF),
    ((v[2] >>> 5) &&& 0xFF),
    ((v[2] &&& 0x1F) <<< 3) ||| ((v[3] >>> 20) &&& 0x7),
    ((v[3] >>> 12) &&& 0xFF),
    ((v[3] >>> 4) &&& 0xFF),
    ((v[3] &&& 0xF) <<< 4) ||| ((v[4] >>> 19) &&& 0xF),
    ((v[4] >>> 11) &&& 0xFF),
    ((v[4] >>> 3) &&& 0xFF),
    ((v[4] &&& 0x7) <<< 5) ||| ((v[5] >>> 18) &&& 0x1F),
    ((v[5] >>> 10) &&& 0xFF),
    ((v[5] >>> 2) &&& 0xFF),
    ((v[5] &&& 0x3) <<< 6) ||| ((v[6] >>> 17) &&& 0x3F),
    ((v[6] >>> 9) &&& 0xFF),
    ((v[6] >>> 1) &&& 0xFF),
    ((v[6] &&& 0x1) <<< 7) ||| ((v[7] >>> 16) &&& 0x7F),
    ((v[7] >>> 8) &&& 0xFF),
    (v[7] &&& 0xFF) ]

/-- PACK8.W24, shift and OR form (R124), one 32-bit word per output byte. -/
def shiftOr8w24 (v : Slots) : List Slot :=
  [ ((v[0] >>> 16) &&& 0xFF),
    ((v[0] >>> 8) &&& 0xFF),
    (v[0] &&& 0xFF),
    ((v[1] >>> 16) &&& 0xFF),
    ((v[1] >>> 8) &&& 0xFF),
    (v[1] &&& 0xFF),
    ((v[2] >>> 16) &&& 0xFF),
    ((v[2] >>> 8) &&& 0xFF),
    (v[2] &&& 0xFF),
    ((v[3] >>> 16) &&& 0xFF),
    ((v[3] >>> 8) &&& 0xFF),
    (v[3] &&& 0xFF),
    ((v[4] >>> 16) &&& 0xFF),
    ((v[4] >>> 8) &&& 0xFF),
    (v[4] &&& 0xFF),
    ((v[5] >>> 16) &&& 0xFF),
    ((v[5] >>> 8) &&& 0xFF),
    (v[5] &&& 0xFF),
    ((v[6] >>> 16) &&& 0xFF),
    ((v[6] >>> 8) &&& 0xFF),
    (v[6] &&& 0xFF),
    ((v[7] >>> 16) &&& 0xFF),
    ((v[7] >>> 8) &&& 0xFF),
    (v[7] &&& 0xFF) ]

/-- PACK8.W25, shift and OR form (R125), one 32-bit word per output byte. -/
def shiftOr8w25 (v : Slots) : List Slot :=
  [ ((v[0] >>> 17) &&& 0xFF),
    ((v[0] >>> 9) &&& 0xFF),
    ((v[0] >>> 1) &&& 0xFF),
    ((v[0] &&& 0x1) <<< 7) ||| ((v[1] >>> 18) &&& 0x7F),
    ((v[1] >>> 10) &&& 0xFF),
    ((v[1] >>> 2) &&& 0xFF),
    ((v[1] &&& 0x3) <<< 6) ||| ((v[2] >>> 19) &&& 0x3F),
    ((v[2] >>> 11) &&& 0xFF),
    ((v[2] >>> 3) &&& 0xFF),
    ((v[2] &&& 0x7) <<< 5) ||| ((v[3] >>> 20) &&& 0x1F),
    ((v[3] >>> 12) &&& 0xFF),
    ((v[3] >>> 4) &&& 0xFF),
    ((v[3] &&& 0xF) <<< 4) ||| ((v[4] >>> 21) &&& 0xF),
    ((v[4] >>> 13) &&& 0xFF),
    ((v[4] >>> 5) &&& 0xFF),
    ((v[4] &&& 0x1F) <<< 3) ||| ((v[5] >>> 22) &&& 0x7),
    ((v[5] >>> 14) &&& 0xFF),
    ((v[5] >>> 6) &&& 0xFF),
    ((v[5] &&& 0x3F) <<< 2) ||| ((v[6] >>> 23) &&& 0x3),
    ((v[6] >>> 15) &&& 0xFF),
    ((v[6] >>> 7) &&& 0xFF),
    ((v[6] &&& 0x7F) <<< 1) ||| ((v[7] >>> 24) &&& 0x1),
    ((v[7] >>> 16) &&& 0xFF),
    ((v[7] >>> 8) &&& 0xFF),
    (v[7] &&& 0xFF) ]

/-- PACK8.W26, shift and OR form (R126), one 32-bit word per output byte. -/
def shiftOr8w26 (v : Slots) : List Slot :=
  [ ((v[0] >>> 18) &&& 0xFF),
    ((v[0] >>> 10) &&& 0xFF),
    ((v[0] >>> 2) &&& 0xFF),
    ((v[0] &&& 0x3) <<< 6) ||| ((v[1] >>> 20) &&& 0x3F),
    ((v[1] >>> 12) &&& 0xFF),
    ((v[1] >>> 4) &&& 0xFF),
    ((v[1] &&& 0xF) <<< 4) ||| ((v[2] >>> 22) &&& 0xF),
    ((v[2] >>> 14) &&& 0xFF),
    ((v[2] >>> 6) &&& 0xFF),
    ((v[2] &&& 0x3F) <<< 2) ||| ((v[3] >>> 24) &&& 0x3),
    ((v[3] >>> 16) &&& 0xFF),
    ((v[3] >>> 8) &&& 0xFF),
    (v[3] &&& 0xFF),
    ((v[4] >>> 18) &&& 0xFF),
    ((v[4] >>> 10) &&& 0xFF),
    ((v[4] >>> 2) &&& 0xFF),
    ((v[4] &&& 0x3) <<< 6) ||| ((v[5] >>> 20) &&& 0x3F),
    ((v[5] >>> 12) &&& 0xFF),
    ((v[5] >>> 4) &&& 0xFF),
    ((v[5] &&& 0xF) <<< 4) ||| ((v[6] >>> 22) &&& 0xF),
    ((v[6] >>> 14) &&& 0xFF),
    ((v[6] >>> 6) &&& 0xFF),
    ((v[6] &&& 0x3F) <<< 2) ||| ((v[7] >>> 24) &&& 0x3),
    ((v[7] >>> 16) &&& 0xFF),
    ((v[7] >>> 8) &&& 0xFF),
    (v[7] &&& 0xFF) ]

/-- PACK8.W27, shift and OR form (R127), one 32-bit word per output byte. -/
def shiftOr8w27 (v : Slots) : List Slot :=
  [ ((v[0] >>> 19) &&& 0xFF),
    ((v[0] >>> 11) &&& 0xFF),
    ((v[0] >>> 3) &&& 0xFF),
    ((v[0] &&& 0x7) <<< 5) ||| ((v[1] >>> 22) &&& 0x1F),
    ((v[1] >>> 14) &&& 0xFF),
    ((v[1] >>> 6) &&& 0xFF),
    ((v[1] &&& 0x3F) <<< 2) ||| ((v[2] >>> 25) &&& 0x3),
    ((v[2] >>> 17) &&& 0xFF),
    ((v[2] >>> 9) &&& 0xFF),
    ((v[2] >>> 1) &&& 0xFF),
    ((v[2] &&& 0x1) <<< 7) ||| ((v[3] >>> 20) &&& 0x7F),
    ((v[3] >>> 12) &&& 0xFF),
    ((v[3] >>> 4) &&& 0xFF),
    ((v[3] &&& 0xF) <<< 4) ||| ((v[4] >>> 23) &&& 0xF),
    ((v[4] >>> 15) &&& 0xFF),
    ((v[4] >>> 7) &&& 0xFF),
    ((v[4] &&& 0x7F) <<< 1) ||| ((v[5] >>> 26) &&& 0x1),
    ((v[5] >>> 18) &&& 0xFF),
    ((v[5] >>> 10) &&& 0xFF),
    ((v[5] >>> 2) &&& 0xFF),
    ((v[5] &&& 0x3) <<< 6) ||| ((v[6] >>> 21) &&& 0x3F),
    ((v[6] >>> 13) &&& 0xFF),
    ((v[6] >>> 5) &&& 0xFF),
    ((v[6] &&& 0x1F) <<< 3) ||| ((v[7] >>> 24) &&& 0x7),
    ((v[7] >>> 16) &&& 0xFF),
    ((v[7] >>> 8) &&& 0xFF),
    (v[7] &&& 0xFF) ]

/-- PACK8.W28, shift and OR form (R128), one 32-bit word per output byte. -/
def shiftOr8w28 (v : Slots) : List Slot :=
  [ ((v[0] >>> 20) &&& 0xFF),
    ((v[0] >>> 12) &&& 0xFF),
    ((v[0] >>> 4) &&& 0xFF),
    ((v[0] &&& 0xF) <<< 4) ||| ((v[1] >>> 24) &&& 0xF),
    ((v[1] >>> 16) &&& 0xFF),
    ((v[1] >>> 8) &&& 0xFF),
    (v[1] &&& 0xFF),
    ((v[2] >>> 20) &&& 0xFF),
    ((v[2] >>> 12) &&& 0xFF),
    ((v[2] >>> 4) &&& 0xFF),
    ((v[2] &&& 0xF) <<< 4) ||| ((v[3] >>> 24) &&& 0xF),
    ((v[3] >>> 16) &&& 0xFF),
    ((v[3] >>> 8) &&& 0xFF),
    (v[3] &&& 0xFF),
    ((v[4] >>> 20) &&& 0xFF),
    ((v[4] >>> 12) &&& 0xFF),
    ((v[4] >>> 4) &&& 0xFF),
    ((v[4] &&& 0xF) <<< 4) ||| ((v[5] >>> 24) &&& 0xF),
    ((v[5] >>> 16) &&& 0xFF),
    ((v[5] >>> 8) &&& 0xFF),
    (v[5] &&& 0xFF),
    ((v[6] >>> 20) &&& 0xFF),
    ((v[6] >>> 12) &&& 0xFF),
    ((v[6] >>> 4) &&& 0xFF),
    ((v[6] &&& 0xF) <<< 4) ||| ((v[7] >>> 24) &&& 0xF),
    ((v[7] >>> 16) &&& 0xFF),
    ((v[7] >>> 8) &&& 0xFF),
    (v[7] &&& 0xFF) ]

/-- PACK8.W29, shift and OR form (R129), one 32-bit word per output byte. -/
def shiftOr8w29 (v : Slots) : List Slot :=
  [ ((v[0] >>> 21) &&& 0xFF),
    ((v[0] >>> 13) &&& 0xFF),
    ((v[0] >>> 5) &&& 0xFF),
    ((v[0] &&& 0x1F) <<< 3) ||| ((v[1] >>> 26) &&& 0x7),
    ((v[1] >>> 18) &&& 0xFF),
    ((v[1] >>> 10) &&& 0xFF),
    ((v[1] >>> 2) &&& 0xFF),
    ((v[1] &&& 0x3) <<< 6) ||| ((v[2] >>> 23) &&& 0x3F),
    ((v[2] >>> 15) &&& 0xFF),
    ((v[2] >>> 7) &&& 0xFF),
    ((v[2] &&& 0x7F) <<< 1) ||| ((v[3] >>> 28) &&& 0x1),
    ((v[3] >>> 20) &&& 0xFF),
    ((v[3] >>> 12) &&& 0xFF),
    ((v[3] >>> 4) &&& 0xFF),
    ((v[3] &&& 0xF) <<< 4) ||| ((v[4] >>> 25) &&& 0xF),
    ((v[4] >>> 17) &&& 0xFF),
    ((v[4] >>> 9) &&& 0xFF),
    ((v[4] >>> 1) &&& 0xFF),
    ((v[4] &&& 0x1) <<< 7) ||| ((v[5] >>> 22) &&& 0x7F),
    ((v[5] >>> 14) &&& 0xFF),
    ((v[5] >>> 6) &&& 0xFF),
    ((v[5] &&& 0x3F) <<< 2) ||| ((v[6] >>> 27) &&& 0x3),
    ((v[6] >>> 19) &&& 0xFF),
    ((v[6] >>> 11) &&& 0xFF),
    ((v[6] >>> 3) &&& 0xFF),
    ((v[6] &&& 0x7) <<< 5) ||| ((v[7] >>> 24) &&& 0x1F),
    ((v[7] >>> 16) &&& 0xFF),
    ((v[7] >>> 8) &&& 0xFF),
    (v[7] &&& 0xFF) ]

/-- PACK8.W30, shift and OR form (R130), one 32-bit word per output byte. -/
def shiftOr8w30 (v : Slots) : List Slot :=
  [ ((v[0] >>> 22) &&& 0xFF),
    ((v[0] >>> 14) &&& 0xFF),
    ((v[0] >>> 6) &&& 0xFF),
    ((v[0] &&& 0x3F) <<< 2) ||| ((v[1] >>> 28) &&& 0x3),
    ((v[1] >>> 20) &&& 0xFF),
    ((v[1] >>> 12) &&& 0xFF),
    ((v[1] >>> 4) &&& 0xFF),
    ((v[1] &&& 0xF) <<< 4) ||| ((v[2] >>> 26) &&& 0xF),
    ((v[2] >>> 18) &&& 0xFF),
    ((v[2] >>> 10) &&& 0xFF),
    ((v[2] >>> 2) &&& 0xFF),
    ((v[2] &&& 0x3) <<< 6) ||| ((v[3] >>> 24) &&& 0x3F),
    ((v[3] >>> 16) &&& 0xFF),
    ((v[3] >>> 8) &&& 0xFF),
    (v[3] &&& 0xFF),
    ((v[4] >>> 22) &&& 0xFF),
    ((v[4] >>> 14) &&& 0xFF),
    ((v[4] >>> 6) &&& 0xFF),
    ((v[4] &&& 0x3F) <<< 2) ||| ((v[5] >>> 28) &&& 0x3),
    ((v[5] >>> 20) &&& 0xFF),
    ((v[5] >>> 12) &&& 0xFF),
    ((v[5] >>> 4) &&& 0xFF),
    ((v[5] &&& 0xF) <<< 4) ||| ((v[6] >>> 26) &&& 0xF),
    ((v[6] >>> 18) &&& 0xFF),
    ((v[6] >>> 10) &&& 0xFF),
    ((v[6] >>> 2) &&& 0xFF),
    ((v[6] &&& 0x3) <<< 6) ||| ((v[7] >>> 24) &&& 0x3F),
    ((v[7] >>> 16) &&& 0xFF),
    ((v[7] >>> 8) &&& 0xFF),
    (v[7] &&& 0xFF) ]

/-- PACK8.W31, shift and OR form (R131), one 32-bit word per output byte. -/
def shiftOr8w31 (v : Slots) : List Slot :=
  [ ((v[0] >>> 23) &&& 0xFF),
    ((v[0] >>> 15) &&& 0xFF),
    ((v[0] >>> 7) &&& 0xFF),
    ((v[0] &&& 0x7F) <<< 1) ||| ((v[1] >>> 30) &&& 0x1),
    ((v[1] >>> 22) &&& 0xFF),
    ((v[1] >>> 14) &&& 0xFF),
    ((v[1] >>> 6) &&& 0xFF),
    ((v[1] &&& 0x3F) <<< 2) ||| ((v[2] >>> 29) &&& 0x3),
    ((v[2] >>> 21) &&& 0xFF),
    ((v[2] >>> 13) &&& 0xFF),
    ((v[2] >>> 5) &&& 0xFF),
    ((v[2] &&& 0x1F) <<< 3) ||| ((v[3] >>> 28) &&& 0x7),
    ((v[3] >>> 20) &&& 0xFF),
    ((v[3] >>> 12) &&& 0xFF),
    ((v[3] >>> 4) &&& 0xFF),
    ((v[3] &&& 0xF) <<< 4) ||| ((v[4] >>> 27) &&& 0xF),
    ((v[4] >>> 19) &&& 0xFF),
    ((v[4] >>> 11) &&& 0xFF),
    ((v[4] >>> 3) &&& 0xFF),
    ((v[4] &&& 0x7) <<< 5) ||| ((v[5] >>> 26) &&& 0x1F),
    ((v[5] >>> 18) &&& 0xFF),
    ((v[5] >>> 10) &&& 0xFF),
    ((v[5] >>> 2) &&& 0xFF),
    ((v[5] &&& 0x3) <<< 6) ||| ((v[6] >>> 25) &&& 0x3F),
    ((v[6] >>> 17) &&& 0xFF),
    ((v[6] >>> 9) &&& 0xFF),
    ((v[6] >>> 1) &&& 0xFF),
    ((v[6] &&& 0x1) <<< 7) ||| ((v[7] >>> 24) &&& 0x7F),
    ((v[7] >>> 16) &&& 0xFF),
    ((v[7] >>> 8) &&& 0xFF),
    (v[7] &&& 0xFF) ]

/-- PACK8.W32, shift and OR form (R132), one 32-bit word per output byte. -/
def shiftOr8w32 (v : Slots) : List Slot :=
  [ ((v[0] >>> 24) &&& 0xFF),
    ((v[0] >>> 16) &&& 0xFF),
    ((v[0] >>> 8) &&& 0xFF),
    (v[0] &&& 0xFF),
    ((v[1] >>> 24) &&& 0xFF),
    ((v[1] >>> 16) &&& 0xFF),
    ((v[1] >>> 8) &&& 0xFF),
    (v[1] &&& 0xFF),
    ((v[2] >>> 24) &&& 0xFF),
    ((v[2] >>> 16) &&& 0xFF),
    ((v[2] >>> 8) &&& 0xFF),
    (v[2] &&& 0xFF),
    ((v[3] >>> 24) &&& 0xFF),
    ((v[3] >>> 16) &&& 0xFF),
    ((v[3] >>> 8) &&& 0xFF),
    (v[3] &&& 0xFF),
    ((v[4] >>> 24) &&& 0xFF),
    ((v[4] >>> 16) &&& 0xFF),
    ((v[4] >>> 8) &&& 0xFF),
    (v[4] &&& 0xFF),
    ((v[5] >>> 24) &&& 0xFF),
    ((v[5] >>> 16) &&& 0xFF),
    ((v[5] >>> 8) &&& 0xFF),
    (v[5] &&& 0xFF),
    ((v[6] >>> 24) &&& 0xFF),
    ((v[6] >>> 16) &&& 0xFF),
    ((v[6] >>> 8) &&& 0xFF),
    (v[6] &&& 0xFF),
    ((v[7] >>> 24) &&& 0xFF),
    ((v[7] >>> 16) &&& 0xFF),
    ((v[7] >>> 8) &&& 0xFF),
    (v[7] &&& 0xFF) ]

/-- The shift and OR form of the engine of a width, `none` where there is no engine (R78). -/
def shiftOrOf (W : Nat) : Option (Slots → List Slot) :=
  match W with
  | 1 => some shiftOr8w1
  | 2 => some shiftOr8w2
  | 3 => some shiftOr8w3
  | 4 => some shiftOr8w4
  | 5 => some shiftOr8w5
  | 6 => some shiftOr8w6
  | 7 => some shiftOr8w7
  | 8 => some shiftOr8w8
  | 9 => some shiftOr8w9
  | 10 => some shiftOr8w10
  | 11 => some shiftOr8w11
  | 12 => some shiftOr8w12
  | 13 => some shiftOr8w13
  | 14 => some shiftOr8w14
  | 15 => some shiftOr8w15
  | 16 => some shiftOr8w16
  | 17 => some shiftOr8w17
  | 18 => some shiftOr8w18
  | 19 => some shiftOr8w19
  | 20 => some shiftOr8w20
  | 21 => some shiftOr8w21
  | 22 => some shiftOr8w22
  | 23 => some shiftOr8w23
  | 24 => some shiftOr8w24
  | 25 => some shiftOr8w25
  | 26 => some shiftOr8w26
  | 27 => some shiftOr8w27
  | 28 => some shiftOr8w28
  | 29 => some shiftOr8w29
  | 30 => some shiftOr8w30
  | 31 => some shiftOr8w31
  | 32 => some shiftOr8w32
  | _ => none

end Sys2Proof.Machine
end

