-- ==== Sys2Proof/Safety.lean ====
section
/-! DEFINITION. The terms the claims use: the invariants that hold between commands (spec/10_state.md R35), the start
states (spec/70_reset_and_hazards.md R190), the violation a command meets (spec/60_exceptions.md R172, R174), what the
host observes (spec/10_state.md R38), and the bytes a whole session must produce (spec/46_encoder_commands.md R161). -/

namespace Sys2Proof.Machine

/-- What holds of a session in every phase but Fresh: `bw` is a legal width, `slab_pos` is a multiple of it, the current
slab exists, and every slab in use has been initialised (R35 (b), (f), (g); R61). -/
abbrev sessionInv (s : State) : Prop :=
  1 ≤ s.width ∧ s.width ≤ 32 ∧ s.slabPos % s.width = 0 ∧ s.frozenCnt < s.params.maxSlabs ∧
    ∀ k < s.frozenCnt + 1, k ∈ s.mem.zeroed

/-- Phase Open (R35 (a) to (g)), with what NEW leaves in `tail_len` and `out_idx` (R37) and the range of the values that
wait in the input register (R152). -/
abbrev openInv (s : State) : Prop :=
  sessionInv s ∧ s.err = .none ∧ s.inCnt.toNat ≤ 7 ∧ s.slabPos + s.width ≤ s.params.slabSize ∧
    s.totalValues.toNat = 8 * (s.frozenCnt * s.params.gps s.width + s.slabPos / s.width) ∧
    s.tailLen = 0 ∧ s.outIdx = 0 ∧ ∀ i : Fin 8, i.val < s.inCnt.toNat → (s.inReg[i]).toNat < 2 ^ s.width

/-- Phase Finalized (R35, second part; R161 L1). -/
abbrev finalInv (s : State) : Prop :=
  sessionInv s ∧ s.err = .none ∧ s.inCnt = 0 ∧ s.slabPos ≤ fillOf s ∧ s.tailLen ≤ s.slabPos ∧
    s.outIdx.toNat ≤ outLen s ∧ outLen s = ceil8 (s.totalValues.toNat * s.width)

/-- Phase Fault: what the trap leaves (R175). -/
abbrev faultInv (s : State) : Prop :=
  sessionInv s ∧ s.err = .noMem ∧ s.inCnt = 0 ∧ s.slabPos = fillOf s ∧ s.frozenCnt + 1 = s.params.maxSlabs ∧
    s.totalValues.toNat = 8 * (s.params.maxSlabs * s.params.gps s.width) ∧ s.tailLen = 0 ∧ s.outIdx = 0

/-- The invariant of the phase the machine is in (R35, R36, R175). -/
def phaseInv (s : State) : Bool :=
  match s.phase with
  | .fresh => decide (s.err = .none)
  | .opened => decide (openInv s)
  | .finalized => decide (finalInv s)
  | .faulted => decide (faultInv s)

/-- The invariant of the machine at rest: legal parameters (R6), the slab store in its canonical form and inside its
bounds (R50), and the invariant of the phase (R35). -/
abbrev restInv (s : State) : Prop :=
  s.params.legal = true ∧ s.mem.wf s.params.slabSize ∧ s.mem.within s.params.slabSize s.params.maxSlabs ∧
    phaseInv s = true

/-- The states a run may start in (R190, U8): phase Fresh, no trap, everything else open; no lone engine operation is
asked for. -/
abbrev isStart (s : State) : Prop := restInv s ∧ s.phase = .fresh ∧ s.grant = false

/-- The violation a command meets, by the table of R172 in the order of R174; `none` where it meets none. An engine meets
one only when it is selected and a lane does not fit (U2). -/
def violation (i : Instr) (s : State) : Option Fault :=
  match i.engineWidth with
  | some W => if s.width = W ∧ lanesFit W s.inReg = false then some .pvRange else none
  | none =>
    match i with
    | .new w => if widthLegal w then none else some .pvWidth
    | .write v => if s.phase ≠ .opened then some .pvPhase else if valueFits v s then none else some .pvRange
    | .finish => if s.phase ≠ .opened then some .pvPhase else none
    | .drain =>
      if s.phase ≠ .finalized then some .pvPhase else if outLen s ≤ s.outIdx.toNat then some .pvDrain else none
    | _ => if sessionLive s then none else some .pvPhase

/-- What the host observes of a run (R38). -/
structure Observation where
  /-- The responses so far. -/
  responses : List Response
  /-- The status output `phase`. -/
  phase : BitVec 2
  /-- The status output `err`. -/
  err : BitVec 2
  /-- In phase Finalized, the byte sequence `OutSeq`; nothing in another phase. -/
  output : List (Option Byte)
  deriving DecidableEq, Repr

/-- The observation of a state between two commands (R38). -/
def observe (s : State) : Observation where
  responses := s.responses
  phase := s.phase.code
  err := s.err.code
  output := if s.phase = .finalized then outSeq s else []

/-- What the host sees of a run: of its last state, or the fault or refusal it stopped with. -/
def observeOutcome (o : Host.Outcome State Fault Refusal) :
    Except (Fault ⊕ Refusal) Observation :=
  match o with
  | .next s => .ok (observe s)
  | .fault f => .error (.inl f)
  | .refused r => .error (.inr r)

/-- Group `k` of a value sequence, its missing lanes zero (R97, R161 L0). -/
def groupOf (xs : List Slot) (k : Nat) : Slots := Vector.ofFn fun i => xs[8 * k + i.val]?.getD 0

/-- The groups of a value sequence packed and concatenated, the last one filled up with zeros (R161 L0). -/
def packGroups (W : Nat) (xs : List Slot) : List Byte :=
  (List.range ((xs.length + 7) / 8)).flatMap fun k => packGeneric W (groupOf xs k)

/-- The byte sequence of a session: the first `ceil8(n * W)` bytes of its packed groups (R161 L0). -/
def packSeq (W : Nat) (xs : List Slot) : List Byte := (packGroups W xs).take (ceil8 (xs.length * W))

end Sys2Proof.Machine
end

