-- ==== Sys2Proof/Certificates/Slice0/Obligations.lean ====
section
/-! DEFINITION. The statements for the provers. Each docstring names the rule or section of spec/ it formalises; where a
clause is the model's own choice it says so and names the log entry. -/

open Sys2Proof Sys2Proof.Machine

/-! ## Encoding and decoding -/

/-- Decoding the encoding of any instruction gives it back, with every operand at every value (R71 to R74, R78). -/
def Obligations.DecodeInvertsEncode : Prop :=
  ∀ i : Instr, i.wellFormed = true → decode (encode i) = .ok i

/-- A word that decodes to an instruction is that instruction's only encoding (R71, R78). -/
def Obligations.EncodeInvertsDecode : Prop :=
  ∀ (t : TableWord) (i : Instr), decode t = .ok i → encode i = t

/-- R71 and the SEL rows of R78: a word decodes to the row with `(c & mask) = match`, a row that matches is the row of the
decoded instruction, and no two rows match one word. -/
def Obligations.WordDecodesToTheOneMatchingRow : Prop :=
  (∀ (t : TableWord) (r : OpcodeRow), r ∈ opcodeTable → r.matchesWord t = true →
      ∃ i, decode t = .ok i ∧ i.row = r) ∧
    ∀ (t : TableWord) (i : Instr), decode t = .ok i → i.row ∈ opcodeTable ∧ i.row.matchesWord t = true

/-- R76: the reserved words are exactly those that match no row, that is `op = 0`, `op = 7`, or `op` in 3..6 with
`arg != 0`; one of them at the command port makes the step the fault PV_CMD, which carries no state. -/
def Obligations.ReservedWordsFaultPvCmd : Prop :=
  (∀ c : CmdWord, (∀ i, decodeCommand c ≠ .ok i) ↔
      (opField c = 0 ∨ opField c = 7 ∨ (3 ≤ (opField c).toNat ∧ (opField c).toNat ≤ 6 ∧ argField c ≠ 0))) ∧
    (∀ c : CmdWord, (∀ i, decodeCommand c ≠ .ok i) ↔ ∀ r ∈ opcodeTable, r.matchesWord (.command c) = false) ∧
    ∀ (s : State) (c : CmdWord) (cs : List CmdWord), s.params.legal = true → s.grant = false → s.cmds = c :: cs →
      (∀ i, decodeCommand c ≠ .ok i) → step s = .fault .pvCmd

/-- R78: select `n` names engine PACK8.W`n` for `n` in 1..32, and the other select values name no engine. -/
def Obligations.SelectNamesEngineOfItsNumber : Prop :=
  ∀ sel : Select,
    (1 ≤ sel.toNat ∧ sel.toNat ≤ 32 →
      ∃ i pack, decodeSelect sel = .ok i ∧ i.engineWidth = some sel.toNat ∧ engineOf sel.toNat = some pack) ∧
    (sel.toNat = 0 ∨ 33 ≤ sel.toNat → decodeSelect sel = .error (.noEngine sel) ∧ engineOf sel.toNat = none)

/-- A few words written out from the spec's encodings decode as listed: the commands and the two reserved words of R71 to
R74 and R76 (95_test_vectors.md section 5.1 lists command words), and the selects of engines 1 and 32 of R78. That a row is
named to `decodeTableWord` by 40 bits for a command and 8 for a select is the model's choice (log 8). -/
def Obligations.ListedWordsDecode : Prop :=
  decodeTableWord 40 0x100000003 = some (.new 3) ∧ decodeTableWord 40 0x2DEADBEEF = some (.write 0xDEADBEEF) ∧
    decodeTableWord 40 0x300000000 = some .finish ∧ decodeTableWord 40 0x400000000 = some .rsize ∧
    decodeTableWord 40 0x500000000 = some .asize ∧ decodeTableWord 40 0x600000000 = some .drain ∧
    decodeTableWord 40 0x300000001 = none ∧ decodeTableWord 40 0x700000000 = none ∧
    decodeTableWord 8 0b000001 = some .pack8w1 ∧ decodeTableWord 8 0b100000 = some .pack8w32

/-- R80 (a) and R79: ENCODE expands to NEW, the WRITEs in order and FINISH when its operands fit 32 bits, and is refused
when one does not. -/
def Obligations.EncodeLineExpandsOrIsRefused : Prop :=
  ∀ (w : Nat) (xs : List Nat),
    (w < 2 ^ 32 → (∀ x ∈ xs, x < 2 ^ 32) → ∃ cs, (AsmLine.encodeSeq w xs).assemble = some cs ∧
      cs.map decodeCommand = (Instr.new (BitVec.ofNat 32 w) ::
        (xs.map (fun x => Instr.write (BitVec.ofNat 32 x)) ++ [Instr.finish])).map .ok) ∧
    (2 ^ 32 ≤ w ∨ (∃ x ∈ xs, 2 ^ 32 ≤ x) → (AsmLine.encodeSeq w xs).assemble = none)

/-! ## One step -/

/-- R150: with a command word presented that decodes, the step is that command's meaning in the state with the word
taken. -/
def Obligations.StepRunsDecodedCommand : Prop :=
  ∀ (s : State) (c : CmdWord) (cs : List CmdWord) (i : Instr), s.params.legal = true → s.grant = false →
    s.cmds = c :: cs → decodeCommand c = .ok i → i.wellFormed = true → step s = exec i { s with cmds := cs }

/-- The model's choice (log 7): with the arbiter granted outside a command, the step is the meaning of the engine that `bw`
selects (R78), in the state with the grant consumed; and that is the arbiter's own write (R95, R96). A select value that
names no engine faults. -/
def Obligations.StepRunsSelectedEngine : Prop :=
  ∀ s : State, s.params.legal = true → s.grant = true →
    (∀ i, decodeSelect s.bw = .ok i → step s = exec i { s with grant := false }) ∧
    step s = (arbiterWrite { s with grant := false }).silent

/-- The model's choice (log 5, log 7): a word of an opcode-table row presented by `withFetchWord` is what the next step
runs, in a state that differs from the given one only in the grant and, for an engine, in `bw`. -/
def Obligations.PresentedWordRunsNext : Prop :=
  ∀ (s : State) (nbits w : Nat) (i : Instr), s.params.legal = true → decodeTableWord nbits w = some i →
    (∀ c, encode i = .command c → step (s.withFetchWord nbits w) = exec i { s with grant := false }) ∧
    (∀ sel, encode i = .select sel → step (s.withFetchWord nbits w) = exec i { s with grant := false, bw := sel })

/-- The model's choice (log 5): with nothing presented and nothing granted the controller waits and the state does not
change. -/
def Obligations.IdleStepChangesNothing : Prop :=
  ∀ s : State, s.params.legal = true → s.grant = false → s.cmds = [] → step s = .next s

/-- U12: a step in a configuration outside R6's constraints is refused. -/
def Obligations.IllegalParametersAreRefused : Prop :=
  ∀ s : State,
    (s.params.slabSize < 32 ∨ s.params.maxSlabs = 0 ∨ 2 ^ 60 ≤ s.params.slabSize * s.params.maxSlabs) →
      step s = .refused .illegalParams

/-! ## The bit layout and the engines -/

/-- R92's formula, for every engine of the bank: `out[k][b] = v[p div W][W - 1 - (p mod W)]` with `p = 8k + (7 - b)`, for
every byte `k` below `W` and every bit `b` below 8; and `W` bytes in all. (Over all lanes this is a fact about the formulas
of R101 to R132; as an instruction an engine fed a lane out of range faults, SelectedEngineFaultsOutsideItsContract.) -/
def Obligations.EngineBitsFollowLayout : Prop :=
  ∀ (W : Nat) (pack : Slots → List Byte), engineOf W = some pack → ∀ v : Slots,
    (pack v).length = W ∧
    ∀ k b : Nat, k < W → b < 8 →
      ((pack v)[k]?.getD 0).getLsbD b =
        (lane v ((8 * k + (7 - b)) / W)).getLsbD (W - 1 - (8 * k + (7 - b)) % W)

/-- R94: every width of 1 to 32 has an engine, and it is byte-identical to the contract `PackGeneric`. (On lanes out of
range this is a fact about the formulas of R92 and R101 to R132 only: U2 defines no bytes there, and as an instruction an
engine fed such a lane faults, SelectedEngineFaultsOutsideItsContract.) -/
def Obligations.EnginesEqualPackGeneric : Prop :=
  ∀ W : Nat, 1 ≤ W → W ≤ 32 → ∃ pack, engineOf W = some pack ∧ ∀ v : Slots, pack v = packGeneric W v

/-- The two forms R101 to R132 give of each engine agree: every word of the shift and OR form is below 256 and is the byte
of the wiring form. -/
def Obligations.ShiftOrFormsEqualWiringForms : Prop :=
  ∀ W : Nat, 1 ≤ W → W ≤ 32 → ∃ pack shiftOr, engineOf W = some pack ∧ shiftOrOf W = some shiftOr ∧
    ∀ v : Slots, (shiftOr v).map BitVec.toNat = (pack v).map BitVec.toNat

/-- R92, the layout: `W` bytes; bit `j` of value `i` is at position `p = i*W + (W-1-j)`, which is bit `7 - (p mod 8)` of
byte `p div 8`; in one formula `out[k][b] = v[p div W][W-1-(p mod W)]` with `p = 8k + (7-b)`; and as an integer identity
`out[k] = (N >> (8*(W-1-k))) & 0xFF` for the number `N = v[0]*2^(7W) + ... + v[7]` of the group. -/
def Obligations.PackGenericFollowsLayout : Prop :=
  ∀ (W : Nat) (v : Slots), 1 ≤ W → W ≤ 32 → lanesFit W v = true →
    (packGeneric W v).length = W ∧
    (∀ i j p : Nat, i < 8 → j < W → p = i * W + (W - 1 - j) →
      ((packGeneric W v)[p / 8]?.getD 0).getLsbD (7 - p % 8) = (lane v i).getLsbD j) ∧
    (∀ k b p : Nat, k < W → b < 8 → p = 8 * k + (7 - b) →
      ((packGeneric W v)[k]?.getD 0).getLsbD b = (lane v (p / W)).getLsbD (W - 1 - p % W)) ∧
    groupNumber W v = (v[0]).toNat * 2 ^ (7 * W) + (v[1]).toNat * 2 ^ (6 * W) + (v[2]).toNat * 2 ^ (5 * W) +
      (v[3]).toNat * 2 ^ (4 * W) + (v[4]).toNat * 2 ^ (3 * W) + (v[5]).toNat * 2 ^ (2 * W) + (v[6]).toNat * 2 ^ W +
      (v[7]).toNat ∧
    ∀ k : Nat, k < W → ((packGeneric W v)[k]?.getD 0).toNat = groupNumber W v / 2 ^ (8 * (W - 1 - k)) % 256

/-- R93 (b): bit `j < W` of lane `i` drives exactly one output bit, the one at position `p = i*W + (W-1-j)`: flipping it
flips that output bit, and leaves every other output bit as it was. -/
def Obligations.EachLaneBitDrivesOneOutputBit : Prop :=
  ∀ (W : Nat) (v : Slots) (i j : Nat) (hi : i < 8), 1 ≤ W → W ≤ 32 → j < W →
    ∀ k b : Nat, k < W → b < 8 →
      (((packGeneric W (v.set i (v[i] ^^^ BitVec.twoPow 32 j) hi))[k]?.getD 0).getLsbD b =
        if 8 * k + (7 - b) = i * W + (W - 1 - j) then !((packGeneric W v)[k]?.getD 0).getLsbD b
        else ((packGeneric W v)[k]?.getD 0).getLsbD b)

/-- R98: with zeros in lanes `c` to 7, every bit from stream position `c*W` on is 0, so the last byte of the real values
is zero below them, and every byte from `ceil8(c*W)` on is 0x00. -/
def Obligations.ZeroLanesGiveZeroBytes : Prop :=
  ∀ (W c k : Nat) (v : Slots), 1 ≤ W → W ≤ 32 → c ≤ 8 → (∀ i : Fin 8, c ≤ i.val → v[i] = 0) → k < W →
    (∀ b : Nat, b < 8 → c * W ≤ 8 * k + (7 - b) → ((packGeneric W v)[k]?.getD 0).getLsbD b = false) ∧
    (ceil8 (c * W) ≤ k → (packGeneric W v)[k]? = some 0)

/-- R93 (f) and 95_test_vectors.md section 6: `Unpack8` recovers the eight values of a group. -/
def Obligations.UnpackInvertsPackGeneric : Prop :=
  ∀ (W : Nat) (v : Slots), 1 ≤ W → W ≤ 32 → lanesFit W v = true →
    unpack8 W (packGeneric W v) = v.toList.map BitVec.toNat

/-- R93 (e): all lanes zero give bytes 0x00, all lanes `2^W - 1` give bytes 0xFF. -/
def Obligations.UniformLanesGiveUniformBytes : Prop :=
  ∀ W : Nat, 1 ≤ W → W ≤ 32 →
    packGeneric W (Vector.replicate 8 0) = List.replicate W 0 ∧
    packGeneric W (Vector.replicate 8 (BitVec.ofNat 32 (2 ^ W - 1))) = List.replicate W 0xFF

/-! ## The engines as instructions -/

/-- R95 and R96, for each of the 32 engine constructors: a selected engine whose lanes fit and whose window lies in the
slab completes; it stores its `W` bytes at `CurBase + slab_pos` and changes nothing else. -/
def Obligations.SelectedEngineWritesItsBytes : Prop :=
  ∀ (i : Instr) (W : Nat) (s : State), i.engineWidth = some W → s.width = W → lanesFit W s.inReg = true →
    s.slabPos + W ≤ s.params.slabSize → s.frozenCnt < s.params.maxSlabs →
      ∃ t, exec i s = .next t ∧ t = { s with mem := t.mem } ∧
        (∀ k, k < W → readByte t (curBase s + s.slabPos + k) = (packGeneric W s.inReg)[k]?) ∧
        ∀ a, a < curBase s + s.slabPos ∨ curBase s + s.slabPos + W ≤ a → readByte t a = readByte s a

/-- R94: the output of an engine that is not selected is discarded and has no effect. -/
def Obligations.UnselectedEngineHasNoEffect : Prop :=
  ∀ (i : Instr) (W : Nat) (s : State), i.engineWidth = some W → s.width ≠ W → exec i s = .next s

/-- R91 and U2, the two preconditions of the packer contract: a selected engine fed a lane `>= 2^W` is the violation
PV_RANGE (the bytes are not defined); one whose lanes fit but whose window leaves the slab stops with the model's own
fault packWindow (log 9). -/
def Obligations.SelectedEngineFaultsOutsideItsContract : Prop :=
  ∀ (i : Instr) (W : Nat) (s : State), i.engineWidth = some W → s.width = W →
    (∀ l : Fin 8, 2 ^ W ≤ (s.inReg[l]).toNat → exec i s = .fault .pvRange) ∧
    (lanesFit W s.inReg = true → s.params.slabSize < s.slabPos + W → exec i s = .fault .packWindow)

/-! ## The slab store -/

/-- R50: `MemWrite(A, n, v)` stores the list with `v[0]` at `A`, `MemRead` gives it back, no other byte changes; both need
`A + n <= MAX_SLABS * SLAB_SIZE`. That an access outside that bound stops, with the fault storeRange, is the model's choice
(log 9): R50 only states the requirement. -/
def Obligations.MemWriteThenRead : Prop :=
  ∀ (s : State) (A : Nat) (bs : List Byte),
    (A + bs.length ≤ s.params.maxSlabs * s.params.slabSize →
      ∃ t, memWrite A bs s = .ok t ∧ t = { s with mem := t.mem } ∧
        (∀ k b, bs[k]? = some b → memReadByte t (A + k) = .ok b) ∧
        ∀ a, a < A ∨ A + bs.length ≤ a → readByte t a = readByte s a) ∧
    (s.params.maxSlabs * s.params.slabSize < A + bs.length → memWrite A bs s = .violate .storeRange) ∧
    ∀ a, s.params.maxSlabs * s.params.slabSize ≤ a → memReadByte s a = .error .storeRange

/-- R140: InitSlab leaves every byte of `M` as `MemWrite(frozen_cnt * SLAB_SIZE, SLAB_SIZE, zeros)` leaves it, sets
`slab_pos` to 0, changes nothing else, and raises nothing when the slab exists. -/
def Obligations.InitSlabIsTheZeroFill : Prop :=
  ∀ s : State, 0 < s.params.slabSize → s.frozenCnt < s.params.maxSlabs →
    ∃ t u, initSlab s = .ok t ∧
      memWrite (s.frozenCnt * s.params.slabSize) (List.replicate s.params.slabSize 0) s = .ok u ∧
      t = { s with mem := t.mem, slabPos := 0 } ∧ ∀ a, readByte t a = readByte u a

/-- The model's choice (log 4, log 15): `M` is held as a list of cells in a canonical form with the list of the slabs
zero-filled since reset, of which the spec says nothing. Two such stores with the same zero-filled slabs that read alike
everywhere are the same data. -/
def Obligations.CanonicalStoresThatReadAlikeAreEqual : Prop :=
  ∀ (S : Nat) (m n : Memory), m.wf S → n.wf S → m.zeroed = n.zeroed → (∀ a, m.read S a = n.read S a) → m = n

/-! ## NEW -/

/-- R151 and R37: `NEW W` with `1 <= W <= 32` opens a session from any state, with every register of R37 as listed, slab 0
zero, and the response `none`; any other `W` is PV_WIDTH. That the slots (log 3) and the bytes of the other slabs (log 4)
keep what they held is the model's choice: R151 does not write them, and R37, U9 and U10 leave their values unspecified. -/
def Obligations.NewOpensSession : Prop :=
  ∀ (s : State) (w : BitVec 32), s.params.legal = true →
    (1 ≤ w.toNat ∧ w.toNat ≤ 32 →
      ∃ t, exec (.new w) s = .next t ∧
        t = { s with phase := .opened, err := .none, bw := BitVec.ofNat 6 w.toNat, inCnt := 0, slabPos := 0,
                     frozenCnt := 0, totalValues := 0, tailLen := 0, outIdx := 0, mem := t.mem,
                     responses := s.responses ++ [.done] } ∧
        (∀ a, a < s.params.slabSize → readByte t a = some 0) ∧
        ∀ a, s.params.slabSize ≤ a → readByte t a = readByte s a) ∧
    (w.toNat < 1 ∨ 32 < w.toNat → exec (.new w) s = .fault .pvWidth)

/-! ## WRITE -/

/-- R152, a WRITE that does not fill the input register: one slot and `in_cnt` change, no byte does. -/
def Obligations.WriteFillsOneSlot : Prop :=
  ∀ (s : State) (v : BitVec 32), s.phase = .opened → v.toNat < 2 ^ s.width → s.inCnt.toNat < 7 →
    ∃ t, exec (.write v) s = .next t ∧
      t = { s with inReg := t.inReg, inCnt := BitVec.ofNat 4 (s.inCnt.toNat + 1),
                   responses := s.responses ++ [.done] } ∧
      ∀ l : Fin 8, t.inReg[l] = if l.val = s.inCnt.toNat then v else s.inReg[l]

/-- R152 and R153, the eighth WRITE of a group when the slab still has room for another (R141): the group of the eight
slots is stored at `CurBase + slab_pos`, the position advances by `bw`, eight values are counted, the register empties. -/
def Obligations.WritePacksFullGroup : Prop :=
  ∀ (s : State) (v : BitVec 32), s.phase = .opened → v.toNat < 2 ^ s.width → s.inCnt = 7 → 1 ≤ s.width →
    s.width ≤ 32 → (∀ l : Fin 8, l.val < 7 → (s.inReg[l]).toNat < 2 ^ s.width) →
    s.slabPos + s.width + s.width ≤ s.params.slabSize → s.frozenCnt < s.params.maxSlabs →
      ∃ t, exec (.write v) s = .next t ∧
        t = { s with inReg := t.inReg, inCnt := 0, slabPos := s.slabPos + s.width,
                     totalValues := s.totalValues + 8, mem := t.mem, responses := s.responses ++ [.done] } ∧
        (∀ l : Fin 8, t.inReg[l] = if l.val = 7 then v else s.inReg[l]) ∧
        (∀ k, k < s.width → readByte t (curBase s + s.slabPos + k) = (packGeneric s.width t.inReg)[k]?) ∧
        ∀ a, a < curBase s + s.slabPos ∨ curBase s + s.slabPos + s.width ≤ a → readByte t a = readByte s a

/-- R152, R141 and R142, the eighth WRITE of a group that fills the slab while a free one is left: the group is stored, the
slab is frozen, the next slab is zero-filled and becomes the current one. -/
def Obligations.WriteRotatesFullSlab : Prop :=
  ∀ (s : State) (v : BitVec 32), s.phase = .opened → v.toNat < 2 ^ s.width → s.inCnt = 7 → 1 ≤ s.width →
    s.width ≤ 32 → (∀ l : Fin 8, l.val < 7 → (s.inReg[l]).toNat < 2 ^ s.width) →
    s.slabPos + s.width ≤ s.params.slabSize → s.params.slabSize < s.slabPos + s.width + s.width →
    s.frozenCnt + 1 < s.params.maxSlabs →
      ∃ t, exec (.write v) s = .next t ∧
        t = { s with inReg := t.inReg, inCnt := 0, slabPos := 0, frozenCnt := s.frozenCnt + 1,
                     totalValues := s.totalValues + 8, mem := t.mem, responses := s.responses ++ [.done] } ∧
        (∀ l : Fin 8, t.inReg[l] = if l.val = 7 then v else s.inReg[l]) ∧
        (∀ k, k < s.width → readByte t (curBase s + s.slabPos + k) = (packGeneric s.width t.inReg)[k]?) ∧
        (∀ o, o < s.params.slabSize → readByte t (slabAddr s (s.frozenCnt + 1) o) = some 0) ∧
        ∀ a, (a < curBase s + s.slabPos ∨ curBase s + s.slabPos + s.width ≤ a) →
          (a < slabAddr s (s.frozenCnt + 1) 0 ∨ slabAddr s (s.frozenCnt + 2) 0 ≤ a) → readByte t a = readByte s a

/-- R175: the eighth WRITE of a group that fills the slab and finds no free one takes the trap NoMem. The slot write and
the group-pack have happened; then `phase` is Fault and `err` is 1, and there is no response. From an aligned position
`slab_pos` is now `FILL(bw)`; FINISH and DRAIN are violations from there. -/
def Obligations.WriteTrapsNoMem : Prop :=
  ∀ (s : State) (v : BitVec 32), s.phase = .opened → v.toNat < 2 ^ s.width → s.inCnt = 7 → 1 ≤ s.width →
    s.width ≤ 32 → (∀ l : Fin 8, l.val < 7 → (s.inReg[l]).toNat < 2 ^ s.width) →
    s.slabPos + s.width ≤ s.params.slabSize → s.params.slabSize < s.slabPos + s.width + s.width →
    s.frozenCnt + 1 = s.params.maxSlabs →
      ∃ t, exec (.write v) s = .next t ∧
        t = { s with phase := .faulted, err := .noMem, inReg := t.inReg, inCnt := 0,
                     slabPos := s.slabPos + s.width, totalValues := s.totalValues + 8, mem := t.mem } ∧
        t.phase.code = 3 ∧ t.err.code = 1 ∧ (s.slabPos % s.width = 0 → t.slabPos = s.params.fill s.width) ∧
        exec .finish t = .fault .pvPhase ∧ exec .drain t = .fault .pvPhase ∧
        (∀ l : Fin 8, t.inReg[l] = if l.val = 7 then v else s.inReg[l]) ∧
        (∀ k, k < s.width → readByte t (curBase s + s.slabPos + k) = (packGeneric s.width t.inReg)[k]?) ∧
        ∀ a, a < curBase s + s.slabPos ∨ curBase s + s.slabPos + s.width ≤ a → readByte t a = readByte s a

/-- R152 and R174: WRITE outside phase Open is PV_PHASE whatever its operand; in phase Open a value `>= 2^bw` is PV_RANGE,
which cannot occur at `bw = 32`. -/
def Obligations.WriteViolations : Prop :=
  ∀ (s : State) (v : BitVec 32),
    (s.phase ≠ .opened → exec (.write v) s = .fault .pvPhase) ∧
    (s.phase = .opened → 2 ^ s.width ≤ v.toNat → exec (.write v) s = .fault .pvRange) ∧
    (s.width = 32 → v.toNat < 2 ^ s.width)

/-! ## FINISH -/

/-- R154 with no value waiting: nothing is packed; `tail_len` is `slab_pos`. -/
def Obligations.FinishWithEmptyRegister : Prop :=
  ∀ s : State, s.phase = .opened → s.inCnt = 0 →
    exec .finish s = .next { s with tailLen := s.slabPos, outIdx := 0, phase := .finalized,
                                    responses := s.responses ++ [.size (BitVec.ofNat 64
                                      (s.frozenCnt * s.params.fill s.width + s.slabPos))] }

/-- R154 with `c` in 1..7 values waiting: slots `c` to 7 become zero, one group is packed and `c` values are counted,
`tail_len` is the old position plus `ceil8(c * bw)`; no rotation, no trap. -/
def Obligations.FinishFlushesWaitingValues : Prop :=
  ∀ s : State, s.phase = .opened → 1 ≤ s.inCnt.toNat → s.inCnt.toNat ≤ 7 → 1 ≤ s.width → s.width ≤ 32 →
    (∀ l : Fin 8, l.val < s.inCnt.toNat → (s.inReg[l]).toNat < 2 ^ s.width) →
    s.slabPos + s.width ≤ s.params.slabSize → s.frozenCnt < s.params.maxSlabs →
      ∃ t, exec .finish s = .next t ∧
        t = { s with phase := .finalized, inReg := t.inReg, inCnt := 0, slabPos := s.slabPos + s.width,
                     totalValues := s.totalValues + BitVec.ofNat 64 s.inCnt.toNat,
                     tailLen := s.slabPos + ceil8 (s.inCnt.toNat * s.width), outIdx := 0, mem := t.mem,
                     responses := s.responses ++ [.size (BitVec.ofNat 64 (s.frozenCnt * s.params.fill s.width +
                       (s.slabPos + ceil8 (s.inCnt.toNat * s.width))))] } ∧
        (∀ l : Fin 8, t.inReg[l] = if l.val < s.inCnt.toNat then s.inReg[l] else 0) ∧
        (∀ k, k < s.width → readByte t (curBase s + s.slabPos + k) = (packGeneric s.width t.inReg)[k]?) ∧
        ∀ a, a < curBase s + s.slabPos ∨ curBase s + s.slabPos + s.width ≤ a → readByte t a = readByte s a

/-- R154: FINISH outside phase Open is PV_PHASE; a second FINISH among them. -/
def Obligations.FinishOutsideOpenFaults : Prop :=
  (∀ s : State, s.phase ≠ .opened → exec .finish s = .fault .pvPhase) ∧
    ∀ s t : State, exec .finish s = .next t → exec .finish t = .fault .pvPhase

/-! ## DRAIN and the output multiplexer -/

/-- R156: DRAIN outside Finalized is PV_PHASE, past the end is PV_DRAIN; otherwise, in a state of the invariant, it answers
the byte `OutByte(out_idx)`, `last` exactly on the final one, and advances `out_idx` by one. -/
def Obligations.DrainDeliversNextByte : Prop :=
  ∀ s : State,
    (s.phase ≠ .finalized → exec .drain s = .fault .pvPhase) ∧
    (s.phase = .finalized → outLen s ≤ s.outIdx.toNat → exec .drain s = .fault .pvDrain) ∧
    (restInv s → s.phase = .finalized → s.outIdx.toNat < outLen s →
      ∃ b, (outSeq s)[s.outIdx.toNat]? = some (some b) ∧
        exec .drain s = .next { s with outIdx := BitVec.ofNat 64 (s.outIdx.toNat + 1),
                                       responses := s.responses ++
                                         [.byte b (decide (s.outIdx.toNat + 1 = outLen s))] })

/-- R155: the byte sequence is the first `FILL(bw)` bytes of every frozen slab in append order, then the first `tail_len`
bytes of the current slab. -/
def Obligations.OutSeqConcatenatesSlabs : Prop :=
  ∀ s : State, 1 ≤ s.width → s.width ≤ s.params.slabSize →
    outSeq s =
      (List.range s.frozenCnt).flatMap
          (fun k => (List.range (s.params.fill s.width)).map fun o => readByte s (slabAddr s k o)) ++
        (List.range s.tailLen).map fun o => readByte s (slabAddr s s.frozenCnt o)

/-- R155: the byte sequence does not change until the next NEW. -/
def Obligations.OutputIsFixedUntilNew : Prop :=
  ∀ (s t : State) (i : Instr), s.phase = .finalized → i.engineWidth = none → (∀ w, i ≠ .new w) →
    exec i s = .next t → outSeq t = outSeq s ∧ t.phase = .finalized

/-- R156: as many DRAINs as the byte sequence is long, one after another, deliver it in order, each byte once, `last` set on
the final one only; one more is PV_DRAIN. -/
def Obligations.DrainsDeliverTheByteSequence : Prop :=
  ∀ s : State, restInv s → s.phase = .finalized → s.outIdx = 0 → s.grant = false →
    s.cmds = List.replicate (outLen s + 1) (commandWord 6 0) →
      (∃ (t : State) (bs : List Byte), Sys2Proof.core.run (outLen s) s = .next t ∧ outSeq s = bs.map some ∧
        t.responses = s.responses ++ (bs.zipIdx.map fun p => .byte p.1 (decide (p.2 + 1 = outLen s)))) ∧
      Sys2Proof.core.run (outLen s + 1) s = .fault .pvDrain

/-! ## RSIZE and ASIZE -/

/-- R157: RSIZE answers `ceil8(total_values * bw)` in phases Open and Finalized and changes nothing else; it is PV_PHASE in
Fresh and Fault. In a state of the invariant the answer is that number, without wrap. -/
def Obligations.RsizeAnswersReportedSize : Prop :=
  ∀ s : State,
    (s.phase = .opened ∨ s.phase = .finalized →
      ∃ n : Word64, exec .rsize s = .next { s with responses := s.responses ++ [.size n] } ∧
        n = BitVec.ofNat 64 ((s.totalValues.toNat * s.width + 7) / 8) ∧
        (restInv s → n.toNat = (s.totalValues.toNat * s.width + 7) / 8)) ∧
    (s.phase = .fresh ∨ s.phase = .faulted → exec .rsize s = .fault .pvPhase)

/-- R158: ASIZE answers `frozen_cnt * SLAB_SIZE + SLAB_SIZE + 32` in phases Open and Finalized and changes nothing else; it
is PV_PHASE in Fresh and Fault. In a state of the invariant the answer is that number, without wrap. -/
def Obligations.AsizeAnswersAllocatedSize : Prop :=
  ∀ s : State,
    (s.phase = .opened ∨ s.phase = .finalized →
      ∃ n : Word64, exec .asize s = .next { s with responses := s.responses ++ [.size n] } ∧
        n = BitVec.ofNat 64 (s.frozenCnt * s.params.slabSize + s.params.slabSize + 32) ∧
        (restInv s → n.toNat = s.frozenCnt * s.params.slabSize + s.params.slabSize + 32)) ∧
    (s.phase = .fresh ∨ s.phase = .faulted → exec .asize s = .fault .pvPhase)

/-! ## The lifecycle, the trap and the violations -/

/-- R159, the transition table: the phase after a command that completes or traps, and the phases it is legal in; an
engine never changes the phase. -/
def Obligations.PhaseTransitionTable : Prop :=
  ∀ (s t : State) (i : Instr), exec i s = .next t →
    match i with
    | .new _ => t.phase = .opened
    | .write _ => s.phase = .opened ∧ (t.phase = .opened ∨ t.phase = .faulted)
    | .finish => s.phase = .opened ∧ t.phase = .finalized
    | .drain => s.phase = .finalized ∧ t.phase = .finalized
    | .rsize => (s.phase = .opened ∨ s.phase = .finalized) ∧ t.phase = s.phase
    | .asize => (s.phase = .opened ∨ s.phase = .finalized) ∧ t.phase = s.phase
    | _ => t.phase = s.phase

/-- R171: only a WRITE raises NoMem, and only the one that completes a group, leaves no room for another in the slab and
finds `frozen_cnt + 1 = MAX_SLABS`; it records the code 1 and nothing else (no address, no command bits, no response):
besides, only the effects of the WRITE's earlier statements stand: its operand in slot 7 and in no other slot, and its
group-pack, whose bytes stand at `CurBase + slab_pos` while every other byte of `M` is as before. -/
def Obligations.OnlyWriteRaisesNoMem : Prop :=
  ∀ (s t : State) (i : Instr), s.phase ≠ .faulted → exec i s = .next t → t.phase = .faulted →
    s.inCnt.toNat = 7 ∧ s.params.slabSize < s.slabPos + s.width + s.width ∧ s.frozenCnt + 1 = s.params.maxSlabs ∧
      t.err.code = 1 ∧
      t = { s with phase := .faulted, err := .noMem, inReg := t.inReg, inCnt := 0, slabPos := s.slabPos + s.width,
                   totalValues := s.totalValues + 8, mem := t.mem } ∧
      (∃ v, i = .write v ∧ ∀ l : Fin 8, t.inReg[l] = if l.val = 7 then v else s.inReg[l]) ∧
      (∀ k, k < s.width → readByte t (groupAddr s + k) = (packGeneric s.width t.inReg)[k]?) ∧
      ∀ a, a < groupAddr s ∨ groupAddr s + s.width ≤ a → readByte t a = readByte s a

/-- R176: in phase Fault every command but NEW is PV_PHASE; a NEW of a legal width completes, leaves it and clears `err`;
and nothing that completes restores anything or traps again: no other instruction leaves the phase. -/
def Obligations.FaultIsLeftOnlyByNew : Prop :=
  ∀ (s : State) (i : Instr), s.phase = .faulted → i.engineWidth = none →
    ((∀ w, i ≠ .new w) → exec i s = .fault .pvPhase) ∧
    (∀ w : BitVec 32, i = .new w → s.params.legal = true → 1 ≤ w.toNat → w.toNat ≤ 32 →
      ∃ t, exec i s = .next t ∧ t.phase = .opened ∧ t.err = .none) ∧
    ∀ t : State, exec i s = .next t → t.phase = .opened ∧ t.err = .none

/-- R172 and R174: in a state of the invariant a command faults exactly when it meets a violation of the table, with the
first one in the priority order as the reason; so a command that meets none completes or traps. A word that matches no row
is PV_CMD in every phase, before anything else. -/
def Obligations.CommandFaultsExactlyOnViolation : Prop :=
  ∀ (s : State) (i : Instr), restInv s → i.engineWidth = none →
    (∀ f, exec i s = .fault f ↔ violation i s = some f) ∧
    (violation i s = none → ∃ t, exec i s = .next t) ∧
    ∀ (c : CmdWord) (cs : List CmdWord), s.grant = false → s.cmds = c :: cs →
      (∀ r ∈ opcodeTable, r.matchesWord (.command c) = false) → step s = .fault .pvCmd

/-! ## Invariants -/

/-- The state after reset satisfies the invariant, in phase Fresh with `err` none (R36, R190). The other registers' values
are the model's choice (log 3, log 4). -/
def Obligations.ResetSatisfiesInvariant : Prop :=
  isStart State.reset ∧ State.reset.phase.code = 0 ∧ State.reset.err.code = 0 ∧
    ∀ p : Params, p.legal = true → isStart (State.resetWith p)

/-- R35: every step keeps the invariant of the machine at rest. -/
def Obligations.StepKeepsInvariant : Prop :=
  ∀ s t : State, restInv s → step s = .next t → restInv t

/-- R160: in phase Open, Finalized and Fault no counter or product exceeds the bounds the rule lists, so no operation
wraps. -/
def Obligations.CountersNeverWrap : Prop :=
  ∀ s : State, restInv s → s.phase ≠ .fresh →
    s.inCnt.toNat ≤ 8 ∧ s.slabPos ≤ s.params.fill s.width ∧ s.params.fill s.width ≤ s.params.slabSize ∧
      s.params.slabSize < 2 ^ s.params.posBits ∧ s.tailLen ≤ s.params.slabSize ∧
      s.frozenCnt ≤ s.params.maxSlabs - 1 ∧
      s.totalValues.toNat ≤ 8 * s.params.gps s.width * s.params.maxSlabs ∧
      s.totalValues.toNat * s.width ≤ 8 * s.params.slabSize * s.params.maxSlabs ∧
      8 * s.params.slabSize * s.params.maxSlabs < 2 ^ 63 ∧
      outLen s ≤ s.params.slabSize * s.params.maxSlabs ∧ s.params.slabSize * s.params.maxSlabs < 2 ^ 60 ∧
      allocatedSize s ≤ s.params.slabSize * s.params.maxSlabs + 32

/-- R144: in phase Open the number of frozen slabs is `(total_values div 8) div GPS(bw)`. -/
def Obligations.FrozenCountFromTotalValues : Prop :=
  ∀ s : State, restInv s → s.phase = .opened →
    s.frozenCnt = s.totalValues.toNat / 8 / s.params.gps s.width

/-- R161 L1: FINISH leaves `OutLen = ceil8(total_values * W)`, which is its response and the answer of an RSIZE after
it. -/
def Obligations.FinishSizeIsReportedSize : Prop :=
  ∀ s t : State, restInv s → exec .finish s = .next t →
    outLen t = ceil8 (t.totalValues.toNat * t.width) ∧
      t.responses = s.responses ++ [.size (BitVec.ofNat 64 (outLen t))] ∧
      exec .rsize t = .next { t with responses := t.responses ++ [.size (BitVec.ofNat 64 (outLen t))] }

/-- R51 and R142: nothing writes a packed byte again before the next NEW: no command but NEW, and no engine, changes a byte
below the group position of the current slab. -/
def Obligations.PackedBytesAreReadOnly : Prop :=
  ∀ (s t : State) (i : Instr), s.slabPos ≤ s.params.slabSize → (∀ w, i ≠ .new w) → exec i s = .next t →
    ∀ a, a < groupAddr s → readByte t a = readByte s a

/-! ## Whole runs -/

/-- R36, R38, R190 and U8: nothing the host can observe of a run depends on what reset leaves unspecified: two start states
with the same parameters, commands and responses so far show the same responses, status outputs and byte sequence, or stop
alike, after any number of steps. -/
def Obligations.ResetContentsAreNeverObserved : Prop :=
  ∀ (s t : State) (n : Nat), isStart s → isStart t → s.params = t.params → s.cmds = t.cmds →
    s.responses = t.responses →
      observeOutcome (Sys2Proof.core.run n s) = observeOutcome (Sys2Proof.core.run n t)

/-- R161 L0, L1 and L8: a session that encodes `xs` at width `W`, from any phase, with room for all its groups, runs to
phase Finalized; its byte sequence is the packed groups cut to `ceil8(n * W)` bytes, the size responded, and
`total_values = n`. -/
def Obligations.SessionEncodesItsValues : Prop :=
  ∀ (s : State) (w : BitVec 32) (xs : List Slot) (rest : List CmdWord), restInv s → s.grant = false →
    1 ≤ w.toNat → w.toNat ≤ 32 → (∀ x ∈ xs, x.toNat < 2 ^ w.toNat) →
    xs.length / 8 < s.params.maxSlabs * s.params.gps w.toNat → s.cmds = encodeStream w xs ++ rest →
      ∃ t : State, Sys2Proof.core.run (xs.length + 2) s = .next t ∧ t.phase = .finalized ∧ t.cmds = rest ∧
        outSeq t = (packSeq w.toNat xs).map some ∧ outLen t = ceil8 (xs.length * w.toNat) ∧
        t.totalValues.toNat = xs.length ∧
        t.responses = s.responses ++ (List.replicate (xs.length + 1) .done ++
          [.size (BitVec.ofNat 64 (ceil8 (xs.length * w.toNat)))])

/-- R161 L8 and R143: a session with at least `MAX_SLABS * GPS(W)` full groups traps NoMem in the WRITE that completes
group number `MAX_SLABS * GPS(W)`. -/
def Obligations.SessionTrapsWhenStoreIsFull : Prop :=
  ∀ (s : State) (w : BitVec 32) (xs : List Slot) (rest : List CmdWord), restInv s → s.grant = false →
    1 ≤ w.toNat → w.toNat ≤ 32 → (∀ x ∈ xs, x.toNat < 2 ^ w.toNat) →
    xs.length = 8 * (s.params.maxSlabs * s.params.gps w.toNat) →
    s.cmds = commandWord 1 w :: (xs.map (commandWord 2) ++ rest) →
      ∃ t : State, Sys2Proof.core.run (xs.length + 1) s = .next t ∧ t.phase = .faulted ∧ t.err = .noMem ∧ t.cmds = rest ∧
        t.totalValues.toNat = xs.length ∧
        t.responses = s.responses ++ List.replicate xs.length .done

/-- R161 L7 with the closed form L0: the reference decoder of 95_test_vectors.md section 6 recovers the values from the
byte sequence. -/
def Obligations.DecoderRecoversValues : Prop :=
  ∀ (W : Nat) (xs : List Slot), 1 ≤ W → W ≤ 32 → (∀ x ∈ xs, x.toNat < 2 ^ W) →
    (packSeq W xs).length = ceil8 (xs.length * W) ∧ unpackSeq W xs.length (packSeq W xs) = xs.map BitVec.toNat

/-- R161 L2 and L3: a length that is a multiple of 8 gives `(len / 8) * W` bytes with nothing cut off, and sequences that
agree on their first `g` groups agree on their first `g * W` bytes. -/
def Obligations.GroupAlignmentAndLocality : Prop :=
  ∀ (W : Nat) (xs ys : List Slot), 1 ≤ W → W ≤ 32 →
    (xs.length % 8 = 0 → packSeq W xs = packGroups W xs ∧ (packSeq W xs).length = xs.length / 8 * W) ∧
    ∀ g, 8 * g ≤ xs.length → 8 * g ≤ ys.length → xs.take (8 * g) = ys.take (8 * g) →
      (packSeq W xs).take (g * W) = (packSeq W ys).take (g * W)
end

