-- ==== Sys2Proof/Laws/Memory.lean ====
section
/-! SUPPORT. Laws of the slab store: what a read gives after each operation, and that every operation keeps the
canonical form and the bounds (spec/20_memory.md R50, R54; spec/45_slab_allocator.md R140). -/

namespace Sys2Proof.Machine

/-! ## Cell lists -/

theorem lookupCell_insertCell (cs : List Host.Cell) (x : Nat) (v : Byte) (y : Nat) :
    lookupCell (insertCell cs x v) y = if x = y then some v else lookupCell cs y := by
  induction cs with
  | nil => simp [insertCell, lookupCell]
  | cons c cs ih =>
    obtain ⟨a, b⟩ := c
    by_cases h1 : x < a
    · simp [insertCell, lookupCell, h1]
    · by_cases h2 : x = a
      · subst h2
        by_cases h3 : x = y <;> simp [insertCell, lookupCell, h3]
      · by_cases h3 : a = y
        · subst h3; simp [insertCell, lookupCell, h1, h2]
        · simp [insertCell, lookupCell, h1, h2, h3, ih]

theorem lookupCell_filter (p : Nat → Bool) (cs : List Host.Cell) (y : Nat) :
    lookupCell (cs.filter fun c => p c.1) y = if p y then lookupCell cs y else none := by
  induction cs with
  | nil => simp [lookupCell]
  | cons c cs ih =>
    obtain ⟨a, b⟩ := c
    by_cases h : p a <;> by_cases hy : a = y
    · subst hy; simp [lookupCell, h]
    · simp [lookupCell, h, hy, ih]
    · subst hy; simp [h, ih]
    · simp [lookupCell, h, hy, ih]

theorem lookupCell_eraseCell (cs : List Host.Cell) (x y : Nat) :
    lookupCell (eraseCell cs x) y = if x = y then none else lookupCell cs y := by
  have := lookupCell_filter (fun a => decide (a ≠ x)) cs y
  simp only [eraseCell]
  rw [this]
  by_cases h : x = y
  · simp [h]
  · have h' : ¬ y = x := fun e => h e.symm
    simp [h, h']

theorem mem_of_lookupCell {cs : List Host.Cell} {a : Nat} {b : Byte} (h : lookupCell cs a = some b) :
    (a, b) ∈ cs := by
  induction cs with
  | nil => simp [lookupCell] at h
  | cons c cs ih =>
    obtain ⟨x, v⟩ := c
    by_cases hx : x = a
    · simp_all [lookupCell]
    · simp only [lookupCell, hx, if_false] at h
      exact List.mem_cons_of_mem _ (ih h)

theorem mem_insertCell {cs : List Host.Cell} {x : Nat} {v : Byte} {c : Host.Cell}
    (h : c ∈ insertCell cs x v) : c = (x, v) ∨ c ∈ cs := by
  induction cs with
  | nil => simpa [insertCell] using h
  | cons d cs ih =>
    obtain ⟨a, b⟩ := d
    by_cases h1 : x < a
    · simpa [insertCell, h1] using h
    · by_cases h2 : x = a
      · simp only [insertCell, h2, lt_irrefl, if_false, if_true, List.mem_cons] at h
        rcases h with h | h
        · exact .inl (by rw [h, h2])
        · exact .inr (List.mem_cons_of_mem _ h)
      · simp only [insertCell, h1, h2, if_false, List.mem_cons] at h
        rcases h with h | h
        · exact .inr (by simp [h])
        · rcases ih h with h | h
          · exact .inl h
          · exact .inr (List.mem_cons_of_mem _ h)

theorem insertCell_sorted {cs : List Host.Cell} (h : (cs.map Prod.fst).Pairwise (· < ·)) (x : Nat) (v : Byte) :
    ((insertCell cs x v).map Prod.fst).Pairwise (· < ·) := by
  induction cs with
  | nil => simp [insertCell]
  | cons d cs ih =>
    obtain ⟨a, b⟩ := d
    simp only [List.map_cons, List.pairwise_cons] at h
    obtain ⟨h1, h2⟩ := h
    by_cases hx : x < a
    · simp only [insertCell, hx, if_true, List.map_cons, List.pairwise_cons]
      refine ⟨?_, h1, h2⟩
      intro y hy
      rcases List.mem_cons.1 hy with rfl | hy
      · exact hx
      · exact hx.trans (h1 y hy)
    · by_cases hxa : x = a
      · subst hxa
        simpa [insertCell] using ⟨by simpa using h1, h2⟩
      · simp only [insertCell, hx, hxa, if_false, List.map_cons, List.pairwise_cons]
        refine ⟨?_, ih h2⟩
        intro y hy
        obtain ⟨c, hc, rfl⟩ := List.mem_map.1 hy
        rcases mem_insertCell hc with rfl | hc
        · show a < x
          omega
        · exact h1 _ (List.mem_map_of_mem hc)

theorem filter_sorted {cs : List Host.Cell} (h : (cs.map Prod.fst).Pairwise (· < ·)) (p : Host.Cell → Bool) :
    ((cs.filter p).map Prod.fst).Pairwise (· < ·) :=
  h.sublist ((List.filter_sublist).map _)

/-! ## Slab lists -/

theorem mem_insertSlab {ks : List Nat} {k j : Nat} : j ∈ insertSlab ks k ↔ j = k ∨ j ∈ ks := by
  induction ks with
  | nil => simp [insertSlab]
  | cons i ks ih =>
    by_cases h1 : k < i
    · simp [insertSlab, h1]
    · by_cases h2 : k = i
      · subst h2; simp [insertSlab]
      · simp only [insertSlab, h1, h2, if_false, List.mem_cons, ih]
        tauto

theorem insertSlab_sorted {ks : List Nat} (h : ks.Pairwise (· < ·)) (k : Nat) :
    (insertSlab ks k).Pairwise (· < ·) := by
  induction ks with
  | nil => simp [insertSlab]
  | cons i ks ih =>
    simp only [List.pairwise_cons] at h
    obtain ⟨h1, h2⟩ := h
    by_cases hk : k < i
    · simp only [insertSlab, hk, if_true, List.pairwise_cons]
      refine ⟨?_, h1, h2⟩
      intro y hy
      rcases List.mem_cons.1 hy with rfl | hy
      · exact hk
      · exact hk.trans (h1 y hy)
    · by_cases hki : k = i
      · subst hki; simpa [insertSlab, h2] using h1
      · simp only [insertSlab, hk, hki, if_false, List.pairwise_cons]
        refine ⟨?_, ih h2⟩
        intro y hy
        rcases mem_insertSlab.1 hy with rfl | hy
        · omega
        · exact h1 y hy

/-! ## Reads -/

@[simp] theorem Memory.background_cells (S : Nat) (m : Memory) (cs : List Host.Cell) (a : Nat) :
    Memory.background S { m with cells := cs } a = m.background S a := rfl

theorem Memory.background_of_mem {S : Nat} {m : Memory} {a : Nat} (h : a / S ∈ m.zeroed) :
    m.background S a = some 0 := by
  simp [Memory.background, h]

@[simp] theorem Memory.writeByte_zeroed (S : Nat) (m : Memory) (a : Nat) (b : Byte) :
    (m.writeByte S a b).zeroed = m.zeroed := by
  unfold Memory.writeByte
  split <;> rfl

@[simp] theorem Memory.background_writeByte (S : Nat) (m : Memory) (a : Nat) (b : Byte) (x : Nat) :
    (m.writeByte S a b).background S x = m.background S x := by
  simp [Memory.background]

/-- A read after a byte write: the byte at its address, the old byte everywhere else. -/
theorem Memory.read_writeByte (S : Nat) (m : Memory) (a : Nat) (b : Byte) (x : Nat) :
    (m.writeByte S a b).read S x = if a = x then some b else m.read S x := by
  unfold Memory.writeByte
  split
  next h =>
    simp only [Memory.read, lookupCell_eraseCell, Memory.background_cells]
    by_cases hx : a = x
    · subst hx; simp [h]
    · simp [hx]
  next h =>
    simp only [Memory.read, lookupCell_insertCell, Memory.background_cells]
    by_cases hx : a = x
    · simp [hx]
    · simp [hx]

@[simp] theorem Memory.writeBytes_zeroed (S : Nat) (m : Memory) (a : Nat) (bs : List Byte) :
    (m.writeBytes S a bs).zeroed = m.zeroed := by
  induction bs generalizing m a with
  | nil => rfl
  | cons b bs ih => simp [Memory.writeBytes, ih]

/-- A read after `MemWrite`: the bytes stored at their addresses, the old byte everywhere else. -/
theorem Memory.read_writeBytes (S : Nat) (m : Memory) (a : Nat) (bs : List Byte) (x : Nat) :
    (m.writeBytes S a bs).read S x =
      if a ≤ x ∧ x < a + bs.length then bs[x - a]? else m.read S x := by
  induction bs generalizing m a with
  | nil =>
    have h : ¬ (a ≤ x ∧ x < a + ([] : List Byte).length) := by simp
    rw [if_neg h]
    rfl
  | cons b bs ih =>
    simp only [Memory.writeBytes, ih, Memory.read_writeByte, List.length_cons]
    by_cases h1 : a + 1 ≤ x ∧ x < a + 1 + bs.length
    · have h2 : a ≤ x ∧ x < a + (bs.length + 1) := by omega
      rw [if_pos h1, if_pos h2]
      obtain ⟨k, rfl⟩ : ∃ k, x = a + (k + 1) := ⟨x - a - 1, by omega⟩
      have e1 : a + (k + 1) - (a + 1) = k := by omega
      have e2 : a + (k + 1) - a = k + 1 := by omega
      rw [e1, e2, List.getElem?_cons_succ]
    · rw [if_neg h1]
      by_cases h3 : a = x
      · subst h3
        simp
      · have h2 : ¬ (a ≤ x ∧ x < a + (bs.length + 1)) := by omega
        rw [if_neg h3, if_neg h2]

/-- A read after a slab initialisation: 0x00 in the slab, the old byte everywhere else (R140). -/
theorem Memory.read_zeroSlab (S : Nat) (m : Memory) (k x : Nat) :
    (m.zeroSlab S k).read S x = if x / S = k then some 0 else m.read S x := by
  simp only [Memory.read, Memory.zeroSlab]
  rw [lookupCell_filter (fun a => decide (a / S ≠ k))]
  by_cases h : x / S = k
  · simp [h, Memory.background, mem_insertSlab]
  · simp [h, Memory.background, mem_insertSlab]

@[simp] theorem Memory.mem_zeroSlab_zeroed (S : Nat) (m : Memory) (k j : Nat) :
    j ∈ (m.zeroSlab S k).zeroed ↔ j = k ∨ j ∈ m.zeroed := by
  simp [Memory.zeroSlab, mem_insertSlab]

/-- A byte of a slab that has been initialised always holds a value. -/
theorem Memory.read_isSome {S : Nat} {m : Memory} {a : Nat} (h : a / S ∈ m.zeroed) :
    ∃ b, m.read S a = some b := by
  unfold Memory.read
  cases lookupCell m.cells a with
  | some b => exact ⟨b, rfl⟩
  | none => exact ⟨0, Memory.background_of_mem h⟩

/-! ## The canonical form -/

theorem Memory.empty_wf (S : Nat) : Memory.wf S { cells := [], zeroed := [] } := by
  simp [Memory.wf]

theorem Memory.writeByte_wf {S : Nat} {m : Memory} (h : m.wf S) (a : Nat) (b : Byte) :
    (m.writeByte S a b).wf S := by
  obtain ⟨h1, h2, h3⟩ := h
  refine ⟨?_, ?_, by simpa using h3⟩
  · unfold Memory.writeByte
    split
    · exact filter_sorted h1 _
    · exact insertCell_sorted h1 _ _
  · intro c hc
    rw [Memory.background_writeByte]
    unfold Memory.writeByte at hc
    split at hc
    next => exact h2 c (List.mem_of_mem_filter hc)
    next hb =>
      rcases mem_insertCell hc with rfl | hc
      · exact hb
      · exact h2 c hc

theorem Memory.writeBytes_wf {S : Nat} {m : Memory} (h : m.wf S) (a : Nat) (bs : List Byte) :
    (m.writeBytes S a bs).wf S := by
  induction bs generalizing m a with
  | nil => exact h
  | cons b bs ih => exact ih (Memory.writeByte_wf h a b) _

theorem Memory.zeroSlab_wf {S : Nat} {m : Memory} (h : m.wf S) (k : Nat) : (m.zeroSlab S k).wf S := by
  obtain ⟨h1, h2, h3⟩ := h
  refine ⟨filter_sorted h1 _, ?_, insertSlab_sorted h3 k⟩
  intro c hc
  simp only [Memory.zeroSlab, List.mem_filter, decide_eq_true_eq] at hc
  have := h2 c hc.1
  simpa [Memory.background, Memory.zeroSlab, mem_insertSlab, hc.2] using this

theorem Memory.writeByte_within {S n : Nat} {m : Memory} (h : m.within S n) {a : Nat} (ha : a < n * S) (b : Byte) :
    (m.writeByte S a b).within S n := by
  refine ⟨?_, by simpa using h.2⟩
  intro c hc
  unfold Memory.writeByte at hc
  split at hc
  · exact h.1 c (List.mem_of_mem_filter hc)
  · rcases mem_insertCell hc with rfl | hc
    · exact ha
    · exact h.1 c hc

theorem Memory.writeBytes_within {S n : Nat} {m : Memory} (h : m.within S n) {a : Nat} {bs : List Byte}
    (ha : a + bs.length ≤ n * S) : (m.writeBytes S a bs).within S n := by
  induction bs generalizing m a with
  | nil => exact h
  | cons b bs ih =>
    simp only [List.length_cons] at ha
    exact ih (Memory.writeByte_within h (by omega) b) (by omega)

theorem Memory.zeroSlab_within {S n : Nat} {m : Memory} (h : m.within S n) {k : Nat} (hk : k < n) :
    (m.zeroSlab S k).within S n := by
  refine ⟨fun c hc => h.1 c (List.mem_of_mem_filter hc), ?_⟩
  intro j hj
  rcases (Memory.mem_zeroSlab_zeroed S m k j).1 hj with rfl | hj
  · exact hk
  · exact h.2 j hj

end Sys2Proof.Machine
end

