-- ==== Sys2Proof/Laws/Packer.lean ====
section
/-! SUPPORT. Small laws of the packer contract and the engine bank: lengths, and which widths have an engine
(spec/40_packer_contract.md R90 to R95). -/

namespace Sys2Proof.Machine

@[simp] theorem packGeneric_length (W : Nat) (v : Slots) : (packGeneric W v).length = W := by
  simp [packGeneric]

theorem packGeneric_getElem? {W k : Nat} (h : k < W) (v : Slots) : (packGeneric W v)[k]? = some (packByte W v k) := by
  simp [packGeneric, h]

/-- A lane of a group. -/
theorem lane_eq {i : Nat} (h : i < 8) (v : Slots) : lane v i = v[i] := by
  simp [lane, h]

/-! ## Bits -/

/-- A bit of two wires side by side. The width of the whole is not looked at when the lemma is applied, so it also fires
on an append that stands as a byte. -/
theorem getLsbD_wires {n m : Nat} (x : BitVec n) (y : BitVec m) (i : Nat) :
    @BitVec.getLsbD (no_index (n + m)) (x ++ y) i = if i < m then y.getLsbD i else x.getLsbD (i - m) :=
  BitVec.getLsbD_append

theorem lane_zero (v : Slots) : lane v 0 = v[0] := rfl
theorem lane_one (v : Slots) : lane v 1 = v[1] := rfl
theorem lane_two (v : Slots) : lane v 2 = v[2] := rfl
theorem lane_three (v : Slots) : lane v 3 = v[3] := rfl
theorem lane_four (v : Slots) : lane v 4 = v[4] := rfl
theorem lane_five (v : Slots) : lane v 5 = v[5] := rfl
theorem lane_six (v : Slots) : lane v 6 = v[6] := rfl
theorem lane_seven (v : Slots) : lane v 7 = v[7] := rfl

theorem lane_of_le {i : Nat} (h : 8 ≤ i) (v : Slots) : lane v i = 0 := by
  simp [lane, h]

/-- Bit `b` of a byte built from its bits, the first bit the most significant. -/
theorem byteOfBits_getLsbD {f : Nat → Bool} {b : Nat} (h : b < 8) : (byteOfBits f).getLsbD b = f (7 - b) := by
  unfold byteOfBits
  interval_cases b <;> simp only [getLsbD_wires] <;> simp

/-- Bit `b` of byte `k` of a packed group is the stream bit at position `8k + (7 - b)` (R92). -/
theorem packGeneric_getLsbD {W k b : Nat} (hk : k < W) (hb : b < 8) (v : Slots) :
    ((packGeneric W v)[k]?.getD 0).getLsbD b = streamBit W v (8 * k + (7 - b)) := by
  rw [packGeneric_getElem? hk, Option.getD_some, packByte, byteOfBits_getLsbD hb]

/-- Two byte lists of one length are equal when all their bits are. -/
theorem bytes_ext {xs ys : List Byte} (hl : xs.length = ys.length)
    (h : ∀ k b, k < xs.length → b < 8 → (xs[k]?.getD 0).getLsbD b = (ys[k]?.getD 0).getLsbD b) : xs = ys := by
  apply List.ext_getElem hl
  intro k h1 h2
  apply BitVec.eq_of_getLsbD_eq
  intro b hb
  have := h k b h1 hb
  simpa [List.getElem?_eq_getElem h1, List.getElem?_eq_getElem h2] using this

/-! ## The bank -/

/-- A width has an engine exactly when it is 1 to 32. -/
theorem engineOf_isSome {W : Nat} (h1 : 1 ≤ W) (h2 : W ≤ 32) : ∃ pack, engineOf W = some pack := by
  interval_cases W <;> exact ⟨_, rfl⟩

theorem engineOf_range {W : Nat} {pack : Slots → List Byte} (h : engineOf W = some pack) : 1 ≤ W ∧ W ≤ 32 := by
  unfold engineOf at h
  split at h <;> first | (cases h; done) | omega

/-- Engine `W` gives exactly `W` bytes (R93 (a), R94). -/
theorem engineOf_length {W : Nat} {pack : Slots → List Byte} (h : engineOf W = some pack) (v : Slots) :
    (pack v).length = W := by
  unfold engineOf at h
  split at h <;> first | (cases h; rfl) | cases h

end Sys2Proof.Machine
end

