-- ==== Sys2Proof/Laws/State.lean ====
section
/-! SUPPORT. The small lemmas of the state record. A record update `{ s with f := x }` is a constructor application, so one
lemma per field says what every update leaves in that field, and one lemma per derived quantity says which fields it reads.
With these as simp lemmas no later proof unfolds an update or a derived quantity. -/

namespace Sys2Proof.Machine

section
variable (p : Params) (ph : Phase) (e : TrapCause) (b : Select) (v : Slots) (c : BitVec 4) (sp fc : Nat) (tv : Word64)
  (tl : Nat) (oi : Word64) (m : Memory) (g : Bool) (cs : List CmdWord) (rs : List Response)

@[simp] theorem State.params_mk : (State.mk p ph e b v c sp fc tv tl oi m g cs rs).params = p := rfl
@[simp] theorem State.phase_mk : (State.mk p ph e b v c sp fc tv tl oi m g cs rs).phase = ph := rfl
@[simp] theorem State.err_mk : (State.mk p ph e b v c sp fc tv tl oi m g cs rs).err = e := rfl
@[simp] theorem State.bw_mk : (State.mk p ph e b v c sp fc tv tl oi m g cs rs).bw = b := rfl
@[simp] theorem State.inReg_mk : (State.mk p ph e b v c sp fc tv tl oi m g cs rs).inReg = v := rfl
@[simp] theorem State.inCnt_mk : (State.mk p ph e b v c sp fc tv tl oi m g cs rs).inCnt = c := rfl
@[simp] theorem State.slabPos_mk : (State.mk p ph e b v c sp fc tv tl oi m g cs rs).slabPos = sp := rfl
@[simp] theorem State.frozenCnt_mk : (State.mk p ph e b v c sp fc tv tl oi m g cs rs).frozenCnt = fc := rfl
@[simp] theorem State.totalValues_mk : (State.mk p ph e b v c sp fc tv tl oi m g cs rs).totalValues = tv := rfl
@[simp] theorem State.tailLen_mk : (State.mk p ph e b v c sp fc tv tl oi m g cs rs).tailLen = tl := rfl
@[simp] theorem State.outIdx_mk : (State.mk p ph e b v c sp fc tv tl oi m g cs rs).outIdx = oi := rfl
@[simp] theorem State.mem_mk : (State.mk p ph e b v c sp fc tv tl oi m g cs rs).mem = m := rfl
@[simp] theorem State.grant_mk : (State.mk p ph e b v c sp fc tv tl oi m g cs rs).grant = g := rfl
@[simp] theorem State.cmds_mk : (State.mk p ph e b v c sp fc tv tl oi m g cs rs).cmds = cs := rfl
@[simp] theorem State.responses_mk : (State.mk p ph e b v c sp fc tv tl oi m g cs rs).responses = rs := rfl

/-! The derived quantities. `(rfl)` in parentheses: simp then rewrites an `if` through its congruence lemma and keeps the
`if`'s decidability instance in step with its condition. -/

@[simp] theorem State.width_mk : (State.mk p ph e b v c sp fc tv tl oi m g cs rs).width = b.toNat := (rfl)
@[simp] theorem slabAddr_mk (k o : Nat) : slabAddr (State.mk p ph e b v c sp fc tv tl oi m g cs rs) k o = k * p.slabSize + o := (rfl)
@[simp] theorem curBase_mk : curBase (State.mk p ph e b v c sp fc tv tl oi m g cs rs) = fc * p.slabSize := (rfl)
@[simp] theorem groupAddr_mk : groupAddr (State.mk p ph e b v c sp fc tv tl oi m g cs rs) = fc * p.slabSize + sp := (rfl)
@[simp] theorem readByte_mk (a : Nat) : readByte (State.mk p ph e b v c sp fc tv tl oi m g cs rs) a = m.read p.slabSize a := (rfl)
@[simp] theorem fillOf_mk : fillOf (State.mk p ph e b v c sp fc tv tl oi m g cs rs) = p.fill b.toNat := (rfl)
@[simp] theorem outLen_mk : outLen (State.mk p ph e b v c sp fc tv tl oi m g cs rs) = fc * p.fill b.toNat + tl := (rfl)
@[simp] theorem reportedSize_mk : reportedSize (State.mk p ph e b v c sp fc tv tl oi m g cs rs) = ceil8 (tv.toNat * b.toNat) := (rfl)
@[simp] theorem allocatedSize_mk : allocatedSize (State.mk p ph e b v c sp fc tv tl oi m g cs rs) = fc * p.slabSize + p.slabSize + 32 := (rfl)
@[simp] theorem groupFull_mk : groupFull (State.mk p ph e b v c sp fc tv tl oi m g cs rs) = decide (c = 8) := (rfl)
@[simp] theorem slabFull_mk : slabFull (State.mk p ph e b v c sp fc tv tl oi m g cs rs) = decide (sp + b.toNat > p.slabSize) := (rfl)
@[simp] theorem noFreeSlab_mk : noFreeSlab (State.mk p ph e b v c sp fc tv tl oi m g cs rs) = decide (fc + 1 = p.maxSlabs) := (rfl)
@[simp] theorem valueFits_mk (x : BitVec 32) : valueFits x (State.mk p ph e b v c sp fc tv tl oi m g cs rs) = decide (x.toNat < 2 ^ b.toNat) := (rfl)
@[simp] theorem sessionLive_mk :
    sessionLive (State.mk p ph e b v c sp fc tv tl oi m g cs rs) = (decide (ph = .opened) || decide (ph = .finalized)) := (rfl)
end

/-! The derived quantities in terms of the fields of one state. -/

theorem curBase_eq (s : State) : curBase s = s.frozenCnt * s.params.slabSize := rfl
theorem groupAddr_eq (s : State) : groupAddr s = s.frozenCnt * s.params.slabSize + s.slabPos := rfl
theorem outLen_eq (s : State) : outLen s = s.frozenCnt * fillOf s + s.tailLen := rfl
theorem fillOf_eq (s : State) : fillOf s = s.params.slabSize / s.width * s.width := rfl

/-! The micro-operations' sequencing. -/

@[simp] theorem Micro.bind_ok (s : State) (k : State → Micro) : (Micro.ok s).bind k = k s := rfl
@[simp] theorem Micro.bind_trap (s : State) (k : State → Micro) : (Micro.trap s).bind k = .trap s := rfl
@[simp] theorem Micro.bind_violate (f : Fault) (k : State → Micro) : (Micro.violate f).bind k = .violate f := rfl
@[simp] theorem Micro.respond_ok (s : State) (r : State → Response) :
    (Micro.ok s).respond r = .next { s with responses := s.responses ++ [r s] } := rfl
@[simp] theorem Micro.respond_trap (s : State) (r : State → Response) : (Micro.trap s).respond r = .next s := rfl
@[simp] theorem Micro.respond_violate (f : Fault) (r : State → Response) : (Micro.violate f).respond r = .fault f := rfl
@[simp] theorem Micro.silent_ok (s : State) : (Micro.ok s).silent = .next s := rfl
@[simp] theorem Micro.silent_trap (s : State) : (Micro.trap s).silent = .next s := rfl
@[simp] theorem Micro.silent_violate (f : Fault) : (Micro.violate f).silent = .fault f := rfl

/-- A bind that completes: its first part completed and so did the rest. -/
theorem Micro.bind_eq_ok {m : Micro} {k : State → Micro} {t : State} (h : m.bind k = .ok t) :
    ∃ u, m = .ok u ∧ k u = .ok t := by
  cases m with
  | ok u => exact ⟨u, rfl, h⟩
  | trap u => cases h
  | violate f => cases h

/-- A bind that traps: its first part did, or the rest did. -/
theorem Micro.bind_eq_trap {m : Micro} {k : State → Micro} {t : State} (h : m.bind k = .trap t) :
    m = .trap t ∨ ∃ u, m = .ok u ∧ k u = .trap t := by
  cases m with
  | ok u => exact .inr ⟨u, rfl, h⟩
  | trap u => exact .inl h
  | violate f => cases h

/-- A bind that is a violation: its first part was, or the rest was. -/
theorem Micro.bind_eq_violate {m : Micro} {k : State → Micro} {f : Fault} (h : m.bind k = .violate f) :
    m = .violate f ∨ ∃ u, m = .ok u ∧ k u = .violate f := by
  cases m with
  | ok u => exact .inr ⟨u, rfl, h⟩
  | trap u => cases h
  | violate g => exact .inl h

/-- A command that answers a next state completed, with one response, or trapped, with none. -/
theorem Micro.respond_eq_next {m : Micro} {r : State → Response} {t : State} (h : m.respond r = .next t) :
    (∃ u, m = .ok u ∧ t = { u with responses := u.responses ++ [r u] }) ∨ m = .trap t := by
  cases m with
  | ok u => exact .inl ⟨u, rfl, by cases h; rfl⟩
  | trap u => cases h; exact .inr rfl
  | violate f => cases h

/-- A command faults only by a violation of one of its micro-operations. -/
theorem Micro.respond_eq_fault {m : Micro} {r : State → Response} {f : Fault} (h : m.respond r = .fault f) :
    m = .violate f := by
  cases m with
  | ok u => cases h
  | trap u => cases h
  | violate g => cases h; rfl

/-- An engine operation that answers a next state. -/
theorem Micro.silent_eq_next {m : Micro} {t : State} (h : m.silent = .next t) : m = .ok t ∨ m = .trap t := by
  cases m with
  | ok u => cases h; exact .inl rfl
  | trap u => cases h; exact .inr rfl
  | violate f => cases h

end Sys2Proof.Machine
end

