-- ==== Sys2Proof/Laws/Ops.lean ====
section
/-! SUPPORT. One lemma per shared operation that says everything it can do (`…_eq_ok`: if it completes, then …), one that
says when it completes (`…_of`), and the ways it can trap or be a violation. Proofs cite these instead of unfolding the
operation. -/

namespace Sys2Proof.Machine

/-! ## Access to the slab store -/

theorem memReadByte_eq_ok {s : State} {a : Nat} {b : Byte} :
    memReadByte s a = .ok b ↔ a < s.params.storeSize ∧ readByte s a = some b := by
  unfold memReadByte
  by_cases h : a < s.params.storeSize
  · cases hr : readByte s a <;> simp [h]
  · simp [h]

theorem memWrite_of {a : Nat} {bs : List Byte} {s : State} (h : a + bs.length ≤ s.params.storeSize) :
    memWrite a bs s = .ok { s with mem := s.mem.writeBytes s.params.slabSize a bs } := by
  simp [memWrite, h]

theorem memWrite_eq_ok {a : Nat} {bs : List Byte} {s t : State} (h : memWrite a bs s = .ok t) :
    a + bs.length ≤ s.params.storeSize ∧ t = { s with mem := s.mem.writeBytes s.params.slabSize a bs } := by
  unfold memWrite at h
  split at h
  next hb => cases h; exact ⟨hb, rfl⟩
  next => cases h

theorem memWrite_ne_trap {a : Nat} {bs : List Byte} {s t : State} : memWrite a bs s ≠ .trap t := by
  unfold memWrite
  split <;> simp

theorem memWrite_eq_violate {a : Nat} {bs : List Byte} {s : State} {f : Fault} (h : memWrite a bs s = .violate f) :
    f = .storeRange ∧ ¬ a + bs.length ≤ s.params.storeSize := by
  unfold memWrite at h
  split at h
  next => cases h
  next hb => cases h; exact ⟨rfl, hb⟩

/-! ## The arbiter's write -/

theorem engineWrite_of {W : Nat} {pack : Slots → List Byte} {s : State} (h1 : lanesFit W s.inReg = true)
    (h2 : s.slabPos + W ≤ s.params.slabSize) (h3 : groupAddr s + (pack s.inReg).length ≤ s.params.storeSize) :
    engineWrite W pack s =
      .ok { s with mem := s.mem.writeBytes s.params.slabSize (groupAddr s) (pack s.inReg) } := by
  have h2' : ¬ s.slabPos + W > s.params.slabSize := by omega
  simp [engineWrite, h1, h2', memWrite_of h3]

theorem engineWrite_eq_ok {W : Nat} {pack : Slots → List Byte} {s t : State} (h : engineWrite W pack s = .ok t) :
    lanesFit W s.inReg = true ∧ s.slabPos + W ≤ s.params.slabSize ∧
      groupAddr s + (pack s.inReg).length ≤ s.params.storeSize ∧
      t = { s with mem := s.mem.writeBytes s.params.slabSize (groupAddr s) (pack s.inReg) } := by
  unfold engineWrite at h
  split at h
  next => cases h
  next h1 =>
    split at h
    next => cases h
    next h2 =>
      obtain ⟨h3, h4⟩ := memWrite_eq_ok h
      exact ⟨by simpa using h1, by omega, h3, h4⟩

theorem engineWrite_ne_trap {W : Nat} {pack : Slots → List Byte} {s t : State} :
    engineWrite W pack s ≠ .trap t := by
  unfold engineWrite
  split
  · simp
  · split
    · simp
    · exact memWrite_ne_trap

theorem engineWrite_eq_violate {W : Nat} {pack : Slots → List Byte} {s : State} {f : Fault}
    (h : engineWrite W pack s = .violate f) :
    (f = .pvRange ∧ lanesFit W s.inReg = false) ∨ (f = .packWindow ∧ s.params.slabSize < s.slabPos + W) ∨
      (f = .storeRange ∧ s.params.storeSize < groupAddr s + (pack s.inReg).length) := by
  unfold engineWrite at h
  split at h
  next h1 => cases h; exact .inl ⟨rfl, h1⟩
  next =>
    split at h
    next h2 => cases h; exact .inr (.inl ⟨rfl, h2⟩)
    next =>
      obtain ⟨rfl, h3⟩ := memWrite_eq_violate h
      exact .inr (.inr ⟨rfl, by omega⟩)

theorem arbiterWrite_of {s : State} {pack : Slots → List Byte} (hp : engineOf s.width = some pack) :
    arbiterWrite s = engineWrite s.width pack s := by
  simp [arbiterWrite, hp]

/-- What the arbiter's write does when it completes: the selected engine's bytes go to the group's address. -/
theorem arbiterWrite_eq_ok {s t : State} (h : arbiterWrite s = .ok t) :
    ∃ pack, engineOf s.width = some pack ∧ lanesFit s.width s.inReg = true ∧
      s.slabPos + s.width ≤ s.params.slabSize ∧ groupAddr s + s.width ≤ s.params.storeSize ∧
      t = { s with mem := s.mem.writeBytes s.params.slabSize (groupAddr s) (pack s.inReg) } := by
  unfold arbiterWrite at h
  split at h
  next pack hp =>
    obtain ⟨h1, h2, h3, h4⟩ := engineWrite_eq_ok h
    rw [engineOf_length hp] at h3
    exact ⟨pack, hp, h1, h2, h3, h4⟩
  next => cases h

theorem arbiterWrite_ne_trap {s t : State} : arbiterWrite s ≠ .trap t := by
  unfold arbiterWrite
  split
  · exact engineWrite_ne_trap
  · simp

/-! ## The group-pack step -/

theorem packGroup_of {c : Nat} {s : State} {pack : Slots → List Byte} (hp : engineOf s.width = some pack)
    (h1 : lanesFit s.width s.inReg = true) (h2 : s.slabPos + s.width ≤ s.params.slabSize)
    (h3 : groupAddr s + s.width ≤ s.params.storeSize) :
    packGroup c s =
      .ok { s with mem := s.mem.writeBytes s.params.slabSize (groupAddr s) (pack s.inReg),
                   slabPos := s.slabPos + s.width,
                   totalValues := s.totalValues + BitVec.ofNat 64 c, inCnt := 0 } := by
  have h3' : groupAddr s + (pack s.inReg).length ≤ s.params.storeSize := by rw [engineOf_length hp]; exact h3
  rw [packGroup, arbiterWrite_of hp, engineWrite_of h1 h2 h3']
  rfl

theorem packGroup_eq_ok {c : Nat} {s t : State} (h : packGroup c s = .ok t) :
    ∃ pack, engineOf s.width = some pack ∧ lanesFit s.width s.inReg = true ∧
      s.slabPos + s.width ≤ s.params.slabSize ∧ groupAddr s + s.width ≤ s.params.storeSize ∧
      t = { s with mem := s.mem.writeBytes s.params.slabSize (groupAddr s) (pack s.inReg),
                   slabPos := s.slabPos + s.width,
                   totalValues := s.totalValues + BitVec.ofNat 64 c, inCnt := 0 } := by
  obtain ⟨u, hu, ht⟩ := Micro.bind_eq_ok h
  obtain ⟨pack, h1, h2, h3, h4, rfl⟩ := arbiterWrite_eq_ok hu
  cases ht
  exact ⟨pack, h1, h2, h3, h4, rfl⟩

theorem packGroup_ne_trap {c : Nat} {s t : State} : packGroup c s ≠ .trap t := by
  intro h
  rcases Micro.bind_eq_trap h with h | ⟨u, _, h⟩
  · exact arbiterWrite_ne_trap h
  · cases h

/-! ## Slab initialisation and rotation -/

theorem initSlab_of {s : State} (h : curBase s + s.params.slabSize ≤ s.params.storeSize) :
    initSlab s = .ok { s with mem := s.mem.zeroSlab s.params.slabSize s.frozenCnt, slabPos := 0 } := by
  simp [initSlab, h]

theorem initSlab_eq_ok {s t : State} (h : initSlab s = .ok t) :
    curBase s + s.params.slabSize ≤ s.params.storeSize ∧
      t = { s with mem := s.mem.zeroSlab s.params.slabSize s.frozenCnt, slabPos := 0 } := by
  unfold initSlab at h
  split at h
  next hb => cases h; exact ⟨hb, rfl⟩
  next => cases h

theorem initSlab_ne_trap {s t : State} : initSlab s ≠ .trap t := by
  unfold initSlab
  split <;> simp

/-- What a rotation does when it completes: the next slab becomes the current one. -/
theorem rotate_eq_ok {s t : State} (h : rotate s = .ok t) :
    s.frozenCnt + 1 ≠ s.params.maxSlabs ∧
      (s.frozenCnt + 1) * s.params.slabSize + s.params.slabSize ≤ s.params.storeSize ∧
      t = { s with frozenCnt := s.frozenCnt + 1,
                   mem := s.mem.zeroSlab s.params.slabSize (s.frozenCnt + 1), slabPos := 0 } := by
  unfold rotate at h
  split at h
  next => cases h
  next hn =>
    obtain ⟨h1, rfl⟩ := initSlab_eq_ok h
    exact ⟨by simpa [noFreeSlab] using hn, by simpa using h1, rfl⟩

/-- A rotation traps exactly by finding no free slab, and then changes nothing but `phase` and `err`. -/
theorem rotate_eq_trap {s t : State} (h : rotate s = .trap t) :
    s.frozenCnt + 1 = s.params.maxSlabs ∧ t = { s with phase := .faulted, err := .noMem } := by
  unfold rotate at h
  split at h
  next hn => cases h; exact ⟨by simpa [noFreeSlab] using hn, rfl⟩
  next => exact absurd h initSlab_ne_trap

theorem rotate_of_noFreeSlab {s : State} (h : s.frozenCnt + 1 = s.params.maxSlabs) :
    rotate s = .trap { s with phase := .faulted, err := .noMem } := by
  simp [rotate, noFreeSlab, h, raiseNoMem]

theorem rotate_of {s : State} (h : s.frozenCnt + 1 < s.params.maxSlabs) :
    rotate s = .ok { s with frozenCnt := s.frozenCnt + 1,
                            mem := s.mem.zeroSlab s.params.slabSize (s.frozenCnt + 1), slabPos := 0 } := by
  have h1 : s.frozenCnt + 1 ≠ s.params.maxSlabs := by omega
  have h2 : (s.frozenCnt + 1) * s.params.slabSize + s.params.slabSize ≤ s.params.storeSize := by
    have := Nat.mul_le_mul_right s.params.slabSize (show s.frozenCnt + 2 ≤ s.params.maxSlabs by omega)
    simp only [Params.storeSize]
    calc (s.frozenCnt + 1) * s.params.slabSize + s.params.slabSize
        = (s.frozenCnt + 2) * s.params.slabSize := by ring
      _ ≤ _ := this
  rw [rotate, if_neg (by simpa [noFreeSlab] using h1), initSlab_of (by simpa using h2)]

/-! ## WRITE's slot and FINISH's flush -/

theorem writeSlot_of {v : BitVec 32} {s : State} (h : s.inCnt.toNat < 8) :
    writeSlot v s = .ok { s with inReg := s.inReg.set s.inCnt.toNat v h } := by
  simp [writeSlot, h]

theorem writeSlot_eq_ok {v : BitVec 32} {s t : State} (h : writeSlot v s = .ok t) :
    ∃ hc : s.inCnt.toNat < 8, t = { s with inReg := s.inReg.set s.inCnt.toNat v hc } := by
  unfold writeSlot at h
  split at h
  next hc => cases h; exact ⟨hc, rfl⟩
  next => cases h

@[simp] theorem zeroFrom_getElem {c i : Nat} (v : Slots) (h : i < 8) :
    (zeroFrom c v)[i] = if c ≤ i then 0 else v[i] := by
  simp [zeroFrom]

theorem flush_ne_trap {c : Nat} {s t : State} : flush c s ≠ .trap t := by
  unfold flush
  split
  · exact packGroup_ne_trap
  · simp

/-- What the flush does when it completes: nothing when no value waits, one zero-filled group otherwise. -/
theorem flush_eq_ok {c : Nat} {s t : State} (h : flush c s = .ok t) :
    (c = 0 ∧ t = s) ∨
      (0 < c ∧ ∃ pack, engineOf s.width = some pack ∧ lanesFit s.width (zeroFrom c s.inReg) = true ∧
        s.slabPos + s.width ≤ s.params.slabSize ∧ groupAddr s + s.width ≤ s.params.storeSize ∧
        t = { s with inReg := zeroFrom c s.inReg,
                     mem := s.mem.writeBytes s.params.slabSize (groupAddr s) (pack (zeroFrom c s.inReg)),
                     slabPos := s.slabPos + s.width,
                     totalValues := s.totalValues + BitVec.ofNat 64 c, inCnt := 0 }) := by
  unfold flush at h
  split at h
  next hc =>
    obtain ⟨pack, h1, h2, h3, h4, rfl⟩ := packGroup_eq_ok h
    exact .inr ⟨hc, pack, h1, h2, h3, h4, rfl⟩
  next hc => cases h; exact .inl ⟨by omega, rfl⟩

/-- The end of a full group when the slab still has room for another one. -/
theorem closeGroup_of_room {s u : State} (h : packGroup 8 s = .ok u) (hu : u.slabPos + u.width ≤ u.params.slabSize) :
    closeGroup s = .ok u := by
  have hf : slabFull u = false := by simpa [slabFull] using hu
  rw [closeGroup, h, Micro.bind_ok, hf, if_neg Bool.false_ne_true]

/-- The end of a full group when the slab is full: it rotates. -/
theorem closeGroup_of_full {s u : State} (h : packGroup 8 s = .ok u) (hu : u.params.slabSize < u.slabPos + u.width) :
    closeGroup s = rotate u := by
  have hf : slabFull u = true := by simpa [slabFull] using hu
  rw [closeGroup, h, Micro.bind_ok, hf, if_pos rfl]

/-- The end of a full group, when it completes: the group is packed, and the slab rotated if it was full. -/
theorem closeGroup_eq_ok {s t : State} (h : closeGroup s = .ok t) :
    ∃ u, packGroup 8 s = .ok u ∧ ((slabFull u = false ∧ t = u) ∨ (slabFull u = true ∧ rotate u = .ok t)) := by
  obtain ⟨u, hu, ht⟩ := Micro.bind_eq_ok h
  refine ⟨u, hu, ?_⟩
  split at ht
  next hf => exact .inr ⟨hf, ht⟩
  next hf => cases ht; exact .inl ⟨by simpa using hf, rfl⟩

/-- The end of a full group, when it traps: the group is packed, the slab is full and there is no free one. -/
theorem closeGroup_eq_trap {s t : State} (h : closeGroup s = .trap t) :
    ∃ u, packGroup 8 s = .ok u ∧ slabFull u = true ∧ rotate u = .trap t := by
  rcases Micro.bind_eq_trap h with h | ⟨u, hu, ht⟩
  · exact absurd h packGroup_ne_trap
  · refine ⟨u, hu, ?_⟩
    split at ht
    next hf => exact ⟨hf, ht⟩
    next => cases ht

end Sys2Proof.Machine
end

