-- ==== Sys2Proof/Laws/Commands.lean ====
section
/-! SUPPORT. For each command and for the engines, one lemma that says everything the instruction can do when it answers a
next state. Proofs over all instructions cite these instead of unfolding the meanings. -/

namespace Sys2Proof.Machine

/-! ## The engines -/

/-- An instruction with an engine width runs that engine. -/
theorem exec_of_engineWidth {i : Instr} {W : Nat} (h : i.engineWidth = some W) :
    ∃ pack, engineOf W = some pack ∧ ∀ s, exec i s = engineOp W pack s := by
  cases i <;> cases h <;> exact ⟨_, rfl, fun s => rfl⟩

/-- What an engine operation does when it answers a next state: nothing when it is not selected, its write otherwise. -/
theorem engineOp_eq_next {W : Nat} {pack : Slots → List Byte} {s t : State} (h : engineOp W pack s = .next t) :
    (s.width ≠ W ∧ t = s) ∨
      (s.width = W ∧ lanesFit W s.inReg = true ∧ s.slabPos + W ≤ s.params.slabSize ∧
        groupAddr s + (pack s.inReg).length ≤ s.params.storeSize ∧
        t = { s with mem := s.mem.writeBytes s.params.slabSize (groupAddr s) (pack s.inReg) }) := by
  unfold engineOp at h
  split at h
  next hw =>
    rcases Micro.silent_eq_next h with h | h
    · exact .inr ⟨hw, engineWrite_eq_ok h⟩
    · exact absurd h engineWrite_ne_trap
  next hw => cases h; exact .inl ⟨hw, rfl⟩

/-! ## The commands -/

/-- What NEW does when it completes; it never traps. -/
theorem execNew_eq_next {s t : State} {w : BitVec 32} (h : execNew w s = .next t) :
    widthLegal w = true ∧ s.params.slabSize ≤ s.params.storeSize ∧
      t = { s with phase := .opened, err := .none, bw := widthBits w, inCnt := 0, slabPos := 0, frozenCnt := 0,
                   totalValues := 0, tailLen := 0, outIdx := 0, mem := s.mem.zeroSlab s.params.slabSize 0,
                   responses := s.responses ++ [.done] } := by
  unfold execNew at h
  split at h
  next => cases h
  next hw =>
    rcases Micro.respond_eq_next h with ⟨u, hu, rfl⟩ | ht
    · obtain ⟨x, hx, hk⟩ := Micro.bind_eq_ok hu
      obtain ⟨hb, rfl⟩ := initSlab_eq_ok hx
      cases hk
      exact ⟨by simpa using hw, by simpa using hb, rfl⟩
    · rcases Micro.bind_eq_trap ht with h | ⟨u, _, hk⟩
      · exact absurd h initSlab_ne_trap
      · cases hk

/-- WRITE in phase Open with a value that fits, the slot index being in range: the slot is written and counted, and a full
register is closed. -/
theorem execWrite_of {s : State} {v : BitVec 32} (hp : s.phase = .opened) (hv : v.toNat < 2 ^ s.width)
    (hc : s.inCnt.toNat < 8) :
    execWrite v s =
      (if s.inCnt.toNat = 7 then
        closeGroup { s with inReg := s.inReg.set s.inCnt.toNat v hc, inCnt := s.inCnt + 1 }
      else .ok { s with inReg := s.inReg.set s.inCnt.toNat v hc, inCnt := s.inCnt + 1 }).respond fun _ => .done := by
  unfold execWrite
  rw [if_neg (by simp [hp]), if_neg (by simp [valueFits, hv]), writeSlot_of hc]
  simp only [Micro.bind_ok, groupFull_mk]
  have key : (s.inCnt + 1 = 8) ↔ s.inCnt.toNat = 7 := by
    generalize s.inCnt = c
    revert c
    decide
  by_cases h : s.inCnt.toNat = 7
  · rw [if_pos h, if_pos (by rw [decide_eq_true_eq]; exact key.2 h)]
  · rw [if_neg h, if_neg (by rw [decide_eq_true_eq]; exact fun hh => h (key.1 hh))]

/-- What WRITE does when it answers a next state: it fills a slot; or it packs a full group, and then goes on in the slab,
or rotates, or traps. -/
theorem execWrite_eq_next {s t : State} {v : BitVec 32} (h : execWrite v s = .next t) :
    s.phase = .opened ∧ v.toNat < 2 ^ s.width ∧ ∃ hc : s.inCnt.toNat < 8,
      (s.inCnt.toNat ≠ 7 ∧
        t = { s with inReg := s.inReg.set s.inCnt.toNat v hc, inCnt := s.inCnt + 1,
                     responses := s.responses ++ [.done] }) ∨
      (s.inCnt.toNat = 7 ∧ ∃ u,
        packGroup 8 { s with inReg := s.inReg.set s.inCnt.toNat v hc, inCnt := s.inCnt + 1 } = .ok u ∧
        ((u.slabPos + u.width ≤ u.params.slabSize ∧ t = { u with responses := u.responses ++ [.done] }) ∨
          (u.params.slabSize < u.slabPos + u.width ∧ u.frozenCnt + 1 ≠ u.params.maxSlabs ∧
            (u.frozenCnt + 1) * u.params.slabSize + u.params.slabSize ≤ u.params.storeSize ∧
            t = { u with frozenCnt := u.frozenCnt + 1,
                         mem := u.mem.zeroSlab u.params.slabSize (u.frozenCnt + 1), slabPos := 0,
                         responses := u.responses ++ [.done] }) ∨
          (u.params.slabSize < u.slabPos + u.width ∧ u.frozenCnt + 1 = u.params.maxSlabs ∧
            t = { u with phase := .faulted, err := .noMem }))) := by
  have h' := h
  unfold execWrite at h
  split at h
  · cases h
  split at h
  · cases h
  rename_i hp hv
  have hp : s.phase = .opened := by simpa using hp
  have hv : v.toNat < 2 ^ s.width := by simpa [valueFits] using hv
  have hc : s.inCnt.toNat < 8 := by
    by_contra hc
    simp [writeSlot, hc] at h
  refine ⟨hp, hv, hc, ?_⟩
  rw [execWrite_of hp hv hc] at h'
  split at h'
  next h7 =>
    refine .inr ⟨h7, ?_⟩
    rcases Micro.respond_eq_next h' with ⟨u, hu, rfl⟩ | ht
    · obtain ⟨w, hw, ⟨h1, rfl⟩ | ⟨h1, h2⟩⟩ := closeGroup_eq_ok hu
      · exact ⟨_, hw, .inl ⟨by simpa [slabFull] using h1, rfl⟩⟩
      · obtain ⟨h3, h4, rfl⟩ := rotate_eq_ok h2
        exact ⟨_, hw, .inr (.inl ⟨by simpa [slabFull] using h1, h3, h4, rfl⟩)⟩
    · obtain ⟨w, hw, h1, h2⟩ := closeGroup_eq_trap ht
      obtain ⟨h3, rfl⟩ := rotate_eq_trap h2
      exact ⟨_, hw, .inr (.inr ⟨by simpa [slabFull] using h1, h3, rfl⟩)⟩
  next h7 =>
    rcases Micro.respond_eq_next h' with ⟨u, hu, rfl⟩ | ht
    · cases hu; exact .inl ⟨h7, rfl⟩
    · cases ht

/-- What FINISH does when it completes; it never traps. -/
theorem execFinish_eq_next {s t : State} (h : execFinish s = .next t) :
    s.phase = .opened ∧ ∃ u, flush s.inCnt.toNat s = .ok u ∧
      t = { u with tailLen := s.slabPos + ceil8 (s.inCnt.toNat * s.width), outIdx := 0, phase := .finalized, responses :=
                     u.responses ++ [.size (BitVec.ofNat 64 (u.frozenCnt * u.params.fill u.width +
                       (s.slabPos + ceil8 (s.inCnt.toNat * s.width))))] } := by
  unfold execFinish at h
  split at h
  next => cases h
  next hp =>
    refine ⟨by simpa using hp, ?_⟩
    rcases Micro.respond_eq_next h with ⟨u, hu, rfl⟩ | ht
    · obtain ⟨x, hx, hk⟩ := Micro.bind_eq_ok hu
      cases hk
      exact ⟨x, hx, rfl⟩
    · rcases Micro.bind_eq_trap ht with h | ⟨u, _, hk⟩
      · exact absurd h flush_ne_trap
      · cases hk

/-- What DRAIN does when it completes. -/
theorem execDrain_eq_next {s t : State} (h : execDrain s = .next t) :
    s.phase = .finalized ∧ s.outIdx.toNat < outLen s ∧ ∃ b, outByte s s.outIdx.toNat = .ok b ∧
      t = { s with outIdx := s.outIdx + 1,
                   responses := s.responses ++ [.byte b (decide (s.outIdx.toNat + 1 = outLen s))] } := by
  unfold execDrain at h
  split at h
  · cases h
  split at h
  · cases h
  split at h
  next => cases h
  next h1 h2 _ b hb =>
    cases h
    exact ⟨by simpa using h1, by omega, b, hb, rfl⟩

/-- What RSIZE does when it completes. -/
theorem execRsize_eq_next {s t : State} (h : execRsize s = .next t) :
    sessionLive s = true ∧
      t = { s with responses := s.responses ++ [.size (BitVec.ofNat 64 (reportedSize s))] } := by
  unfold execRsize at h
  split at h
  next => cases h
  next h1 => cases h; exact ⟨by simpa using h1, rfl⟩

/-- What ASIZE does when it completes. -/
theorem execAsize_eq_next {s t : State} (h : execAsize s = .next t) :
    sessionLive s = true ∧
      t = { s with responses := s.responses ++ [.size (BitVec.ofNat 64 (allocatedSize s))] } := by
  unfold execAsize at h
  split at h
  next => cases h
  next h1 => cases h; exact ⟨by simpa using h1, rfl⟩

theorem sessionLive_iff {s : State} : sessionLive s = true ↔ s.phase = .opened ∨ s.phase = .finalized := by
  cases h : s.phase <;> simp [sessionLive, h]

end Sys2Proof.Machine
end

