-- ==== Sys2Proof/Laws/Decode.lean ====
section
/-! SUPPORT. Small laws of the command word: its two fields, and what a word composed of two fields decodes to
(spec/30_encoding.md R70, R71, R74, R76). -/

namespace Sys2Proof

@[simp] theorem opField_commandWord (op : BitVec 3) (arg : BitVec 32) : opField (commandWord op arg) = op := by
  unfold opField commandWord
  apply BitVec.eq_of_getLsbD_eq
  intro i hi
  rw [BitVec.getLsbD_extractLsb, BitVec.getLsbD_append]
  have h : i < 3 := by omega
  simp [h]

@[simp] theorem argField_commandWord (op : BitVec 3) (arg : BitVec 32) : argField (commandWord op arg) = arg := by
  unfold argField commandWord
  apply BitVec.eq_of_getLsbD_eq
  intro i hi
  rw [BitVec.getLsbD_extractLsb, BitVec.getLsbD_append]
  have h : i < 32 := by omega
  simp [h]

/-- A command word is its two fields (R70). -/
theorem commandWord_fields (c : CmdWord) : commandWord (opField c) (argField c) = c := by
  unfold argField opField commandWord
  apply BitVec.eq_of_getLsbD_eq
  intro i hi
  rw [BitVec.getLsbD_append, BitVec.getLsbD_extractLsb, BitVec.getLsbD_extractLsb]
  by_cases h : i < 32
  · simp [h]
  · have h2 : i - 32 < 3 := by omega
    have h3 : 32 + (i - 32) = i := by omega
    simp [h, h2, h3]

/-- The eight values of `op`. -/
theorem op_cases (op : BitVec 3) :
    op = 0 ∨ op = 1 ∨ op = 2 ∨ op = 3 ∨ op = 4 ∨ op = 5 ∨ op = 6 ∨ op = 7 := by
  revert op
  decide

/-- What a word decodes to, by its two fields (R71, R74, R76). -/
theorem decodeCommand_commandWord (op : BitVec 3) (arg : BitVec 32) :
    decodeCommand (commandWord op arg) =
      if op = 1 then .ok (.new arg) else if op = 2 then .ok (.write arg)
      else if op = 3 ∧ arg = 0 then .ok .finish else if op = 4 ∧ arg = 0 then .ok .rsize
      else if op = 5 ∧ arg = 0 then .ok .asize else if op = 6 ∧ arg = 0 then .ok .drain
      else .error (if op = 0 ∨ op = 7 then .reservedOp op else .nonzeroArg op) := by
  unfold decodeCommand
  rw [opField_commandWord, argField_commandWord]
  rcases op_cases op with rfl | rfl | rfl | rfl | rfl | rfl | rfl | rfl <;> simp [decodeNoOperand]

/-- The engine a select value names is the engine of that number (R78). -/
theorem decodeSelect_engineWidth {sel : Select} {i : Instr} (h : decodeSelect sel = .ok i) :
    i.engineWidth = some sel.toNat := by
  unfold decodeSelect at h
  split at h <;> cases h <;> simp_all [Instr.engineWidth]

theorem decodeSelect_of_range {sel : Select} (h1 : 1 ≤ sel.toNat) (h2 : sel.toNat ≤ 32) :
    ∃ i, decodeSelect sel = .ok i := by
  unfold decodeSelect
  generalize sel.toNat = n at h1 h2
  interval_cases n <;> exact ⟨_, rfl⟩

theorem decodeSelect_out_of_range {sel : Select} (h : sel.toNat = 0 ∨ 33 ≤ sel.toNat) :
    decodeSelect sel = .error (.noEngine sel) := by
  unfold decodeSelect
  split <;> simp_all

end Sys2Proof
end

