-- ==== Sys2Proof/Laws/PerInstr.lean ====
section
/-! SUPPORT. Statements made per instruction. `RowMatches`: the word of an instruction matches the row of the opcode table
that the instruction stands for, and that row is in the table (spec/30_encoding.md R71, R78). -/

namespace Sys2Proof.Laws

/-- The encoding of an instruction matches its own row of the opcode table. -/
def RowMatches.Statement (i : Instr) : Prop := i.row ∈ opcodeTable ∧ i.row.matchesWord (encode i) = true

/-- Masking a command word with the mask of `op` leaves `op` and no argument. -/
theorem commandWord_and_opMask (op : BitVec 3) (arg : BitVec 32) :
    commandWord op arg &&& BitVec.ofNat 35 0x700000000 = commandWord op 0 := by
  apply BitVec.eq_of_getLsbD_eq
  intro i hi
  have hi' : i < 35 := hi
  simp only [BitVec.getLsbD_and, commandWord, BitVec.getLsbD_append]
  interval_cases i <;> simp

theorem RowMatches.new (w : BitVec 32) : RowMatches.Statement (.new w) := by
  refine ⟨by simp [opcodeTable, Instr.row], ?_⟩
  simp only [Instr.row, encode, OpcodeRow.matchesWord, commandWord_and_opMask]
  decide

theorem RowMatches.write (v : BitVec 32) : RowMatches.Statement (.write v) := by
  refine ⟨by simp [opcodeTable, Instr.row], ?_⟩
  simp only [Instr.row, encode, OpcodeRow.matchesWord, commandWord_and_opMask]
  decide

theorem RowMatches.finish : RowMatches.Statement .finish := by unfold RowMatches.Statement; decide
theorem RowMatches.rsize : RowMatches.Statement .rsize := by unfold RowMatches.Statement; decide
theorem RowMatches.asize : RowMatches.Statement .asize := by unfold RowMatches.Statement; decide
theorem RowMatches.drain : RowMatches.Statement .drain := by unfold RowMatches.Statement; decide
theorem RowMatches.pack8w1 : RowMatches.Statement .pack8w1 := by unfold RowMatches.Statement; decide
theorem RowMatches.pack8w2 : RowMatches.Statement .pack8w2 := by unfold RowMatches.Statement; decide
theorem RowMatches.pack8w3 : RowMatches.Statement .pack8w3 := by unfold RowMatches.Statement; decide
theorem RowMatches.pack8w4 : RowMatches.Statement .pack8w4 := by unfold RowMatches.Statement; decide
theorem RowMatches.pack8w5 : RowMatches.Statement .pack8w5 := by unfold RowMatches.Statement; decide
theorem RowMatches.pack8w6 : RowMatches.Statement .pack8w6 := by unfold RowMatches.Statement; decide
theorem RowMatches.pack8w7 : RowMatches.Statement .pack8w7 := by unfold RowMatches.Statement; decide
theorem RowMatches.pack8w8 : RowMatches.Statement .pack8w8 := by unfold RowMatches.Statement; decide
theorem RowMatches.pack8w9 : RowMatches.Statement .pack8w9 := by unfold RowMatches.Statement; decide
theorem RowMatches.pack8w10 : RowMatches.Statement .pack8w10 := by unfold RowMatches.Statement; decide
theorem RowMatches.pack8w11 : RowMatches.Statement .pack8w11 := by unfold RowMatches.Statement; decide
theorem RowMatches.pack8w12 : RowMatches.Statement .pack8w12 := by unfold RowMatches.Statement; decide
theorem RowMatches.pack8w13 : RowMatches.Statement .pack8w13 := by unfold RowMatches.Statement; decide
theorem RowMatches.pack8w14 : RowMatches.Statement .pack8w14 := by unfold RowMatches.Statement; decide
theorem RowMatches.pack8w15 : RowMatches.Statement .pack8w15 := by unfold RowMatches.Statement; decide
theorem RowMatches.pack8w16 : RowMatches.Statement .pack8w16 := by unfold RowMatches.Statement; decide
theorem RowMatches.pack8w17 : RowMatches.Statement .pack8w17 := by unfold RowMatches.Statement; decide
theorem RowMatches.pack8w18 : RowMatches.Statement .pack8w18 := by unfold RowMatches.Statement; decide
theorem RowMatches.pack8w19 : RowMatches.Statement .pack8w19 := by unfold RowMatches.Statement; decide
theorem RowMatches.pack8w20 : RowMatches.Statement .pack8w20 := by unfold RowMatches.Statement; decide
theorem RowMatches.pack8w21 : RowMatches.Statement .pack8w21 := by unfold RowMatches.Statement; decide
theorem RowMatches.pack8w22 : RowMatches.Statement .pack8w22 := by unfold RowMatches.Statement; decide
theorem RowMatches.pack8w23 : RowMatches.Statement .pack8w23 := by unfold RowMatches.Statement; decide
theorem RowMatches.pack8w24 : RowMatches.Statement .pack8w24 := by unfold RowMatches.Statement; decide
theorem RowMatches.pack8w25 : RowMatches.Statement .pack8w25 := by unfold RowMatches.Statement; decide
theorem RowMatches.pack8w26 : RowMatches.Statement .pack8w26 := by unfold RowMatches.Statement; decide
theorem RowMatches.pack8w27 : RowMatches.Statement .pack8w27 := by unfold RowMatches.Statement; decide
theorem RowMatches.pack8w28 : RowMatches.Statement .pack8w28 := by unfold RowMatches.Statement; decide
theorem RowMatches.pack8w29 : RowMatches.Statement .pack8w29 := by unfold RowMatches.Statement; decide
theorem RowMatches.pack8w30 : RowMatches.Statement .pack8w30 := by unfold RowMatches.Statement; decide
theorem RowMatches.pack8w31 : RowMatches.Statement .pack8w31 := by unfold RowMatches.Statement; decide
theorem RowMatches.pack8w32 : RowMatches.Statement .pack8w32 := by unfold RowMatches.Statement; decide

end Sys2Proof.Laws
end

