-- ==== Sys2Proof/Laws/Step.lean ====
section
/-! SUPPORT. What one step does in each kind of state, and how a run unfolds (spec/46_encoder_commands.md R150). -/

namespace Sys2Proof.Machine

/-- With a word presented that decodes, the step is the command's meaning. -/
theorem step_of_command {s : State} {c : CmdWord} {cs : List CmdWord} {i : Instr} (hl : s.params.legal = true)
    (hg : s.grant = false) (hc : s.cmds = c :: cs) (hd : decodeCommand c = .ok i) :
    step s = exec i { s with cmds := cs } := by
  simp [step, hl, fetch, hg, fetchCommand, hc, hd]

/-- What a step of a machine with legal parameters can do when it answers a next state. -/
theorem step_eq_next {s t : State} (h : step s = .next t) :
    s.params.legal = true ∧
      ((s.grant = false ∧ s.cmds = [] ∧ t = s) ∨
        (s.grant = false ∧ ∃ c cs i, s.cmds = c :: cs ∧ decodeCommand c = .ok i ∧
          exec i { s with cmds := cs } = .next t) ∨
        (s.grant = true ∧ ∃ i, decodeSelect s.bw = .ok i ∧ exec i { s with grant := false } = .next t)) := by
  unfold step at h
  split at h
  next hl =>
    refine ⟨hl, ?_⟩
    unfold fetch at h
    by_cases hg : s.grant = true
    · rw [if_pos hg, fetchSelect] at h
      cases hd : decodeSelect s.bw with
      | ok i => rw [hd] at h; exact .inr (.inr ⟨hg, i, rfl, h⟩)
      | error e => rw [hd] at h; cases h
    · have hg' : s.grant = false := by simpa using hg
      rw [if_neg hg, fetchCommand] at h
      cases hc : s.cmds with
      | nil => rw [hc] at h; cases h; exact .inl ⟨hg', rfl, rfl⟩
      | cons c cs =>
        rw [hc] at h
        cases hd : decodeCommand c with
        | ok i => simp only [hd] at h; exact .inr (.inl ⟨hg', c, cs, i, rfl, hd, h⟩)
        | error e => simp only [hd] at h; cases h
  next => cases h

/-- A run whose first step answers a next state. -/
theorem run_succ_of_next {s t : State} {n : Nat} (h : step s = .next t) :
    Sys2Proof.core.run (n + 1) s = Sys2Proof.core.run n t := by
  have e : Sys2Proof.core.step s = step s := rfl
  simp only [Host.Core.run, e, h]

/-- A run whose first step faults. -/
theorem run_succ_of_fault {s : State} {n : Nat} {f : Fault} (h : step s = .fault f) :
    Sys2Proof.core.run (n + 1) s = .fault f := by
  have e : Sys2Proof.core.step s = step s := rfl
  simp only [Host.Core.run, e, h]

end Sys2Proof.Machine
end

