-- ==== Sys2Proof/Tests/Slice0.lean ====
section
/-! SUPPORT. Tests on fixed values, and for every statement with hypotheses a witness that meets them together. Expected
results come from spec/: the worked examples of R101 to R132 and of spec/95_test_vectors.md, the words of
spec/30_encoding.md, and hand calculation from the rules; each theorem names its source. -/

namespace Sys2Proof.Tests

open Sys2Proof Sys2Proof.Machine

/-! ## Small states -/

/-- Slots from numbers. -/
def slots (a b c d e f g h : Nat) : Slots :=
  #v[BitVec.ofNat 32 a, BitVec.ofNat 32 b, BitVec.ofNat 32 c, BitVec.ofNat 32 d,
    BitVec.ofNat 32 e, BitVec.ofNat 32 f, BitVec.ofNat 32 g, BitVec.ofNat 32 h]

/-- Bytes as numbers. -/
def nums (bs : List Byte) : List Nat := bs.map BitVec.toNat

/-- The smallest parameters: slabs of 32 bytes. -/
def small (n : Nat) : Params := { slabSize := 32, maxSlabs := n }

/-- A session of width `w` just opened, on two slabs of 32 bytes. -/
def opened (w : Select) : State :=
  { State.resetWith (small 2) with phase := .opened, bw := w, mem := { cells := [], zeroed := [0] } }

/-- A session of width `w` with `c` slots of `v` filled, at position `p` of slab `f`, with the counters that go with it. -/
def filled (w : Select) (c : BitVec 4) (v : Slots) (p f : Nat) (n : Word64) : State :=
  { opened w with inCnt := c, inReg := v, slabPos := p, frozenCnt := f, totalValues := n,
                  mem := { cells := [], zeroed := List.range (f + 1) } }

/-- The session of the worked example S3 (95 section 1), all eight values packed, after FINISH. -/
def finished : State :=
  { opened 3 with phase := .finalized, slabPos := 3, totalValues := 8, tailLen := 3,
                  mem := { cells := [(0, 0x05), (1, 0x39), (2, 0x77)], zeroed := [0] } }

/-- A session that trapped NoMem: one slab of 32 bytes filled by one group of width 32. -/
def trapped : State :=
  { opened 32 with params := small 1, phase := .faulted, err := .noMem, slabPos := 32, totalValues := 8 }

/-- Seven values wait; the eighth completes a group after which the slab has room for exactly one more. -/
def roomForOneMore : State := filled 16 7 (slots 1 2 3 4 5 6 0xFFFF 0) 0 1 16

/-- Seven values wait; the eighth completes the group that ends where slab 0 ends, and slab 1 is free. -/
def lastRoom : State := filled 16 7 (slots 1 2 3 4 5 6 7 0) 16 0 8

/-- Seven values wait; the eighth completes the last group of the last slab. -/
def lastRoomOfStore : State := filled 16 7 (slots 1 2 3 4 5 6 7 0) 16 1 24

/-- The state a step leads to, the given one where it stops. -/
def after (s : State) (o : Host.Outcome State Fault Refusal) : State :=
  match o with
  | .next t => t
  | _ => s

/-- The next state of an outcome, if it is one. -/
def nextOf (o : Host.Outcome State Fault Refusal) : Option State :=
  match o with
  | .next t => some t
  | _ => none

/-- Whether an outcome is a next state. -/
def completes (o : Host.Outcome State Fault Refusal) : Bool :=
  match o with
  | .next _ => true
  | _ => false

/-- The fault an outcome stops with. -/
def faultOf (o : Host.Outcome State Fault Refusal) : Option Fault :=
  match o with
  | .fault f => some f
  | _ => none

theorem next_after {s : State} {o : Host.Outcome State Fault Refusal} (h : completes o = true) :
    o = .next (after s o) := by
  cases o with
  | next t => rfl
  | fault f => cases h
  | refused r => cases h

theorem fault_of {o : Host.Outcome State Fault Refusal} {f : Fault} (h : faultOf o = some f) : o = .fault f := by
  cases o with
  | next t => cases h
  | fault g => cases h; rfl
  | refused r => cases h

/-! ## WellFormed: an ill-formed term for each check -/

/-- R79: an operand of 33 bits is refused, in every line that has one. -/
theorem test_wellFormed_refuses_wide_operand :
    (AsmLine.new 0x100000000).wellFormed = false ∧ (AsmLine.write 0x100000000).wellFormed = false ∧
      (AsmLine.encodeSeq 0x100000000 [1]).wellFormed = false ∧ (AsmLine.encodeSeq 3 [1, 0x100000000]).wellFormed = false ∧
      (AsmLine.write8 [0, 1, 2, 3, 4, 5, 6, 0x100000000]).wellFormed = false := by decide

/-- R80 (b): WRITE8 has exactly eight operands. -/
theorem test_wellFormed_refuses_seven_operands :
    (AsmLine.write8 [0, 1, 2, 3, 4, 5, 6]).wellFormed = false ∧
      (AsmLine.write8 [0, 1, 2, 3, 4, 5, 6, 7]).wellFormed = true := by decide

/-- R72, R73: every 32-bit operand of NEW and WRITE is well formed. -/
theorem test_wellFormed_instructions :
    (Instr.new 0xFFFFFFFF).wellFormed = true ∧ (Instr.write 0xFFFFFFFF).wellFormed = true ∧
      Instr.finish.wellFormed = true ∧ Instr.pack8w32.wellFormed = true := by decide

/-- R6, U12: configurations just outside the constraints are not legal; the smallest and the default one are. -/
theorem test_params_legal :
    Params.legal ⟨31, 1⟩ = false ∧ Params.legal ⟨32, 0⟩ = false ∧ Params.legal ⟨2 ^ 59, 2⟩ = false ∧
      Params.legal ⟨32, 1⟩ = true ∧ Params.legal ⟨8388608, 2⟩ = true := by decide

/-- R7 and the table of 95 section 4 for the default slab: `GPS`, `FILL` and `POS_BITS`. -/
theorem test_params_derived :
    Params.gps ⟨8388608, 2⟩ 3 = 2796202 ∧ Params.fill ⟨8388608, 2⟩ 3 = 8388606 ∧ Params.posBits ⟨8388608, 2⟩ = 24 ∧
      Params.fill ⟨32, 2⟩ 12 = 24 := by decide

/-! ## Decoding: words written out from spec/30_encoding.md -/

/-- R71: `op` in bits 34:32, `arg` in bits 31:0. -/
theorem test_decode_commands :
    decode (.command 0b00100000000000000000000000000000011) = .ok (.new 3) ∧
      decode (.command 0b01011011110101011011011111011101111) = .ok (.write 0xDEADBEEF) ∧
      decode (.command 0b01100000000000000000000000000000000) = .ok .finish ∧
      decode (.command 0b10000000000000000000000000000000000) = .ok .rsize ∧
      decode (.command 0b10100000000000000000000000000000000) = .ok .asize ∧
      decode (.command 0b11000000000000000000000000000000000) = .ok .drain := by decide

/-- R76: reserved words, by `op` and by a nonzero `arg`. -/
theorem test_decode_reserved :
    decode (.command 0x000000000) = .error (.reservedOp 0) ∧ decode (.command 0x7FFFFFFFF) = .error (.reservedOp 7) ∧
      decode (.command 0x300000001) = .error (.nonzeroArg 3) ∧ decode (.command 0x480000000) = .error (.nonzeroArg 4) ∧
      decode (.command 0x500000100) = .error (.nonzeroArg 5) ∧ decode (.command 0x6FFFFFFFF) = .error (.nonzeroArg 6) := by
  decide

/-- R78: select values that name no engine. -/
theorem test_decode_no_engine :
    decode (.select 0) = .error (.noEngine 0) ∧ decode (.select 0b100001) = .error (.noEngine 33) ∧
      decode (.select 0b111111) = .error (.noEngine 63) := by decide

/-- R78: select value `n` is engine PACK8.W`n`, `n` from 1 to 8. -/
theorem test_decode_engines_1_to_8 :
    decode (.select 0b000001) = .ok .pack8w1 ∧
      decode (.select 0b000010) = .ok .pack8w2 ∧
      decode (.select 0b000011) = .ok .pack8w3 ∧
      decode (.select 0b000100) = .ok .pack8w4 ∧
      decode (.select 0b000101) = .ok .pack8w5 ∧
      decode (.select 0b000110) = .ok .pack8w6 ∧
      decode (.select 0b000111) = .ok .pack8w7 ∧
      decode (.select 0b001000) = .ok .pack8w8 := by decide

/-- R78: select value `n` is engine PACK8.W`n`, `n` from 9 to 16. -/
theorem test_decode_engines_9_to_16 :
    decode (.select 0b001001) = .ok .pack8w9 ∧
      decode (.select 0b001010) = .ok .pack8w10 ∧
      decode (.select 0b001011) = .ok .pack8w11 ∧
      decode (.select 0b001100) = .ok .pack8w12 ∧
      decode (.select 0b001101) = .ok .pack8w13 ∧
      decode (.select 0b001110) = .ok .pack8w14 ∧
      decode (.select 0b001111) = .ok .pack8w15 ∧
      decode (.select 0b010000) = .ok .pack8w16 := by decide

/-- R78: select value `n` is engine PACK8.W`n`, `n` from 17 to 24. -/
theorem test_decode_engines_17_to_24 :
    decode (.select 0b010001) = .ok .pack8w17 ∧
      decode (.select 0b010010) = .ok .pack8w18 ∧
      decode (.select 0b010011) = .ok .pack8w19 ∧
      decode (.select 0b010100) = .ok .pack8w20 ∧
      decode (.select 0b010101) = .ok .pack8w21 ∧
      decode (.select 0b010110) = .ok .pack8w22 ∧
      decode (.select 0b010111) = .ok .pack8w23 ∧
      decode (.select 0b011000) = .ok .pack8w24 := by decide

/-- R78: select value `n` is engine PACK8.W`n`, `n` from 25 to 32. -/
theorem test_decode_engines_25_to_32 :
    decode (.select 0b011001) = .ok .pack8w25 ∧
      decode (.select 0b011010) = .ok .pack8w26 ∧
      decode (.select 0b011011) = .ok .pack8w27 ∧
      decode (.select 0b011100) = .ok .pack8w28 ∧
      decode (.select 0b011101) = .ok .pack8w29 ∧
      decode (.select 0b011110) = .ok .pack8w30 ∧
      decode (.select 0b011111) = .ok .pack8w31 ∧
      decode (.select 0b100000) = .ok .pack8w32 := by decide

/-- The opcode table's numbering: a SEL row in one byte, a CMD row in five; a number too wide is no word (U4). -/
theorem test_decodeTableWord :
    decodeTableWord 8 0b001100 = some .pack8w12 ∧ decodeTableWord 6 0b001100 = some .pack8w12 ∧
      decodeTableWord 8 0b1000000 = none ∧ decodeTableWord 40 0x200000007 = some (.write 7) ∧
      decodeTableWord 35 0x600000000 = some .drain ∧ decodeTableWord 40 0x800000000 = none := by decide

/-! ## Assembler text (R79, R80) -/

/-- A decimal and a hexadecimal operand, a comment, a blank line. -/
theorem test_assemble_lines :
    assembleText 0 ['N', 'E', 'W', ' ', '0', 'x', '2', '0', ' ', '#', 'c'] = some [0x100000020] ∧
      assembleText 0 ['W', 'R', 'I', 'T', 'E', ' ', '7'] = some [0x200000007] ∧
      assembleText 0 ['F', 'I', 'N', 'I', 'S', 'H'] = some [0x300000000] ∧ assembleText 0 [' ', '#', 'x'] = some [] ∧
      assembleText 0 ['F', 'I', 'N', 'I', 'S', 'H', ' ', '1'] = none := by decide

/-- ENCODE, WRITE8 with too few values, DRAINALL after a FINISH that answered 2. -/
theorem test_assemble_pseudo_instructions :
    assembleText 0 ['E', 'N', 'C', 'O', 'D', 'E', ' ', '3', ',', ' ', '[', '7', ']'] =
        some [0x100000003, 0x200000007, 0x300000000] ∧
      assembleText 0 ['W', 'R', 'I', 'T', 'E', '8', ' ', '[', '1', ',', ' ', '2', ']'] = none ∧
      assembleText 2 ['D', 'R', 'A', 'I', 'N', 'A', 'L', 'L'] = some [0x600000000, 0x600000000] ∧
      wordText 0x2DEADBEEF = ['0', 'x', '2', '_', 'D', 'E', 'A', 'D', 'B', 'E', 'E', 'F'] := by decide

/-! ## The engines: patterns A and B of R101 to R132 -/

/-- Patterns A and B of R101. -/
theorem test_pack8w1_examples :
    nums (pack8w1 (slots 0x1 0x0 0x1 0x0 0x1 0x0 0x1 0x0)) =
        [0xAA] ∧
      nums (pack8w1 (slots 0x1 0x0 0x1 0x0 0x0 0x1 0x0 0x1)) =
        [0xA5] := by decide

/-- Patterns A and B of R102. -/
theorem test_pack8w2_examples :
    nums (pack8w2 (slots 0x1 0x2 0x3 0x0 0x1 0x2 0x3 0x0)) =
        [0x6C, 0x6C] ∧
      nums (pack8w2 (slots 0x2 0x0 0x3 0x1 0x0 0x2 0x1 0x3)) =
        [0x8D, 0x27] := by decide

/-- Patterns A and B of R103. -/
theorem test_pack8w3_examples :
    nums (pack8w3 (slots 0x1 0x2 0x3 0x4 0x5 0x6 0x7 0x0)) =
        [0x29, 0xCB, 0xB8] ∧
      nums (pack8w3 (slots 0x4 0x1 0x6 0x3 0x0 0x5 0x2 0x7)) =
        [0x87, 0x31, 0x57] := by decide

/-- Patterns A and B of R104. -/
theorem test_pack8w4_examples :
    nums (pack8w4 (slots 0x1 0x2 0x3 0x4 0x5 0x6 0x7 0x8)) =
        [0x12, 0x34, 0x56, 0x78] ∧
      nums (pack8w4 (slots 0x9 0x3 0xD 0x7 0x1 0xB 0x5 0xF)) =
        [0x93, 0xD7, 0x1B, 0x5F] := by decide

/-- Patterns A and B of R105. -/
theorem test_pack8w5_examples :
    nums (pack8w5 (slots 0x1 0x2 0x3 0x4 0x5 0x6 0x7 0x8)) =
        [0x08, 0x86, 0x42, 0x98, 0xE8] ∧
      nums (pack8w5 (slots 0x13 0x7 0x1B 0xF 0x2 0x16 0xA 0x1E)) =
        [0x99, 0xF6, 0xF1, 0x59, 0x5E] := by decide

/-- Patterns A and B of R106. -/
theorem test_pack8w6_examples :
    nums (pack8w6 (slots 0x1 0x2 0x3 0x4 0x5 0x6 0x7 0x8)) =
        [0x04, 0x20, 0xC4, 0x14, 0x61, 0xC8] ∧
      nums (pack8w6 (slots 0x27 0xF 0x36 0x1E 0x5 0x2D 0x14 0x3C)) =
        [0x9C, 0xFD, 0x9E, 0x16, 0xD5, 0x3C] := by decide

/-- Patterns A and B of R107. -/
theorem test_pack8w7_examples :
    nums (pack8w7 (slots 0x1 0x2 0x3 0x4 0x5 0x6 0x7 0x8)) =
        [0x02, 0x08, 0x18, 0x40, 0xA1, 0x83, 0x88] ∧
      nums (pack8w7 (slots 0x4F 0x1E 0x6D 0x3C 0xB 0x5A 0x29 0x78)) =
        [0x9E, 0x7B, 0x6B, 0xC1, 0x76, 0x94, 0xF8] := by decide

/-- Patterns A and B of R108. -/
theorem test_pack8w8_examples :
    nums (pack8w8 (slots 0x1 0x2 0x3 0x4 0x5 0x6 0x7 0x8)) =
        [0x01, 0x02, 0x03, 0x04, 0x05, 0x06, 0x07, 0x08] ∧
      nums (pack8w8 (slots 0x9E 0x3C 0xDA 0x78 0x17 0xB5 0x53 0xF1)) =
        [0x9E, 0x3C, 0xDA, 0x78, 0x17, 0xB5, 0x53, 0xF1] := by decide

/-- Patterns A and B of R109. -/
theorem test_pack8w9_examples :
    nums (pack8w9 (slots 0x1 0x2 0x3 0x4 0x5 0x6 0x7 0x8)) =
        [0x00, 0x80, 0x80, 0x60, 0x40, 0x28, 0x18, 0x0E, 0x08] ∧
      nums (pack8w9 (slots 0x13C 0x78 0x1B5 0xF1 0x2E 0x16A 0xA7 0x1E3)) =
        [0x9E, 0x1E, 0x36, 0xAF, 0x11, 0x75, 0xA9, 0x4F, 0xE3] := by decide

/-- Patterns A and B of R110. -/
theorem test_pack8w10_examples :
    nums (pack8w10 (slots 0x1 0x2 0x3 0x4 0x5 0x6 0x7 0x8)) =
        [0x00, 0x40, 0x20, 0x0C, 0x04, 0x01, 0x40, 0x60, 0x1C, 0x08] ∧
      nums (pack8w10 (slots 0x278 0xF1 0x36A 0x1E3 0x5C 0x2D5 0x14E 0x3C6)) =
        [0x9E, 0x0F, 0x1D, 0xA9, 0xE3, 0x17, 0x2D, 0x55, 0x3B, 0xC6] := by decide

/-- Patterns A and B of R111. -/
theorem test_pack8w11_examples :
    nums (pack8w11 (slots 0x1 0x2 0x3 0x4 0x5 0x6 0x7 0x8)) =
        [0x00, 0x20, 0x08, 0x01, 0x80, 0x40, 0x0A, 0x01, 0x80, 0x38, 0x08] ∧
      nums (pack8w11 (slots 0x4F1 0x1E3 0x6D5 0x3C6 0xB8 0x5AA 0x29C 0x78D)) =
        [0x9E, 0x27, 0x8F, 0x6A, 0xBC, 0x61, 0x71, 0x6A, 0x94, 0xE7, 0x8D] := by decide

/-- Patterns A and B of R112. -/
theorem test_pack8w12_examples :
    nums (pack8w12 (slots 0x1 0x2 0x3 0x4 0x5 0x6 0x7 0x8)) =
        [0x00, 0x10, 0x02, 0x00, 0x30, 0x04, 0x00, 0x50, 0x06, 0x00, 0x70, 0x08] ∧
      nums (pack8w12 (slots 0x9E3 0x3C6 0xDAA 0x78D 0x171 0xB54 0x538 0xF1B)) =
        [0x9E, 0x33, 0xC6, 0xDA, 0xA7, 0x8D, 0x17, 0x1B, 0x54, 0x53, 0x8F, 0x1B] := by decide

/-- Patterns A and B of R113. -/
theorem test_pack8w13_examples :
    nums (pack8w13 (slots 0x1 0x2 0x3 0x4 0x5 0x6 0x7 0x8)) =
        [0x00, 0x08, 0x00, 0x80, 0x06, 0x00, 0x40, 0x02, 0x80, 0x18, 0x00, 0xE0, 0x08] ∧
      nums (pack8w13 (slots 0x13C6 0x78D 0x1B54 0xF1B 0x2E2 0x16A9 0xA70 0x1E37)) =
        [0x9E, 0x31, 0xE3, 0x76, 0xA8, 0xF1, 0xB1, 0x71, 0x5A, 0xA5, 0x4E, 0x1E, 0x37] := by decide

/-- Patterns A and B of R114. -/
theorem test_pack8w14_examples :
    nums (pack8w14 (slots 0x1 0x2 0x3 0x4 0x5 0x6 0x7 0x8)) =
        [0x00, 0x04, 0x00, 0x20, 0x00, 0xC0, 0x04, 0x00, 0x14, 0x00, 0x60, 0x01, 0xC0, 0x08] ∧
      nums (pack8w14 (slots 0x278D 0xF1B 0x36A9 0x1E37 0x5C5 0x2D53 0x14E1 0x3C6E)) =
        [0x9E, 0x34, 0xF1, 0xBD, 0xAA, 0x5E, 0x37, 0x17, 0x16, 0xD5, 0x35, 0x38, 0x7C, 0x6E] := by decide

/-- Patterns A and B of R115. -/
theorem test_pack8w15_examples :
    nums (pack8w15 (slots 0x1 0x2 0x3 0x4 0x5 0x6 0x7 0x8)) =
        [0x00, 0x02, 0x00, 0x08, 0x00, 0x18, 0x00, 0x40, 0x00, 0xA0, 0x01, 0x80, 0x03, 0x80, 0x08] ∧
      nums (pack8w15 (slots 0x4F1B 0x1E37 0x6D53 0x3C6E 0xB8A 0x5AA6 0x29C2 0x78DD)) =
        [0x9E, 0x36, 0x78, 0xDF, 0x6A, 0x9B, 0xC6, 0xE1, 0x71, 0x56, 0xA9, 0x94, 0xE1, 0x78, 0xDD] := by decide

/-- Patterns A and B of R116. -/
theorem test_pack8w16_examples :
    nums (pack8w16 (slots 0x1 0x2 0x3 0x4 0x5 0x6 0x7 0x8)) =
        [0x00, 0x01, 0x00, 0x02, 0x00, 0x03, 0x00, 0x04, 0x00, 0x05, 0x00, 0x06, 0x00, 0x07, 0x00, 0x08] ∧
      nums (pack8w16 (slots 0x9E37 0x3C6E 0xDAA6 0x78DD 0x1715 0xB54C 0x5384 0xF1BB)) =
        [0x9E, 0x37, 0x3C, 0x6E, 0xDA, 0xA6, 0x78, 0xDD, 0x17, 0x15, 0xB5, 0x4C, 0x53, 0x84, 0xF1, 0xBB] := by decide

/-- Patterns A and B of R117. -/
theorem test_pack8w17_examples :
    nums (pack8w17 (slots 0x1 0x2 0x3 0x4 0x5 0x6 0x7 0x8)) =
        [0x00, 0x00, 0x80, 0x00, 0x80, 0x00, 0x60, 0x00, 0x40, 0x00, 0x28, 0x00, 0x18, 0x00, 0x0E, 0x00,
         0x08] ∧
      nums (pack8w17 (slots 0x13C6E 0x78DD 0x1B54C 0xF1BB 0x2E2A 0x16A99 0xA708 0x1E377)) =
        [0x9E, 0x37, 0x1E, 0x37, 0x76, 0xA9, 0x8F, 0x1B, 0xB1, 0x71, 0x55, 0xAA, 0x65, 0x4E, 0x11, 0xE3,
         0x77] := by decide

/-- Patterns A and B of R118. -/
theorem test_pack8w18_examples :
    nums (pack8w18 (slots 0x1 0x2 0x3 0x4 0x5 0x6 0x7 0x8)) =
        [0x00, 0x00, 0x40, 0x00, 0x20, 0x00, 0x0C, 0x00, 0x04, 0x00, 0x01, 0x40, 0x00, 0x60, 0x00, 0x1C,
         0x00, 0x08] ∧
      nums (pack8w18 (slots 0x278DD 0xF1BB 0x36A99 0x1E377 0x5C55 0x2D533 0x14E11 0x3C6EF)) =
        [0x9E, 0x37, 0x4F, 0x1B, 0xBD, 0xAA, 0x65, 0xE3, 0x77, 0x17, 0x15, 0x6D, 0x53, 0x35, 0x38, 0x47,
         0xC6, 0xEF] := by decide

/-- Patterns A and B of R119. -/
theorem test_pack8w19_examples :
    nums (pack8w19 (slots 0x1 0x2 0x3 0x4 0x5 0x6 0x7 0x8)) =
        [0x00, 0x00, 0x20, 0x00, 0x08, 0x00, 0x01, 0x80, 0x00, 0x40, 0x00, 0x0A, 0x00, 0x01, 0x80, 0x00,
         0x38, 0x00, 0x08] ∧
      nums (pack8w19 (slots 0x4F1BB 0x1E377 0x6D533 0x3C6EF 0xB8AB 0x5AA66 0x29C22 0x78DDE)) =
        [0x9E, 0x37, 0x67, 0x8D, 0xDF, 0x6A, 0x99, 0xBC, 0x6E, 0xF1, 0x71, 0x57, 0x6A, 0x99, 0x94, 0xE1,
         0x17, 0x8D, 0xDE] := by decide

/-- Patterns A and B of R120. -/
theorem test_pack8w20_examples :
    nums (pack8w20 (slots 0x1 0x2 0x3 0x4 0x5 0x6 0x7 0x8)) =
        [0x00, 0x00, 0x10, 0x00, 0x02, 0x00, 0x00, 0x30, 0x00, 0x04, 0x00, 0x00, 0x50, 0x00, 0x06, 0x00,
         0x00, 0x70, 0x00, 0x08] ∧
      nums (pack8w20 (slots 0x9E377 0x3C6EF 0xDAA66 0x78DDE 0x17156 0xB54CD 0x53845 0xF1BBC)) =
        [0x9E, 0x37, 0x73, 0xC6, 0xEF, 0xDA, 0xA6, 0x67, 0x8D, 0xDE, 0x17, 0x15, 0x6B, 0x54, 0xCD, 0x53,
         0x84, 0x5F, 0x1B, 0xBC] := by decide

/-- Patterns A and B of R121. -/
theorem test_pack8w21_examples :
    nums (pack8w21 (slots 0x1 0x2 0x3 0x4 0x5 0x6 0x7 0x8)) =
        [0x00, 0x00, 0x08, 0x00, 0x00, 0x80, 0x00, 0x06, 0x00, 0x00, 0x40, 0x00, 0x02, 0x80, 0x00, 0x18,
         0x00, 0x00, 0xE0, 0x00, 0x08] ∧
      nums (pack8w21 (slots 0x13C6EF 0x78DDE 0x1B54CD 0xF1BBC 0x2E2AC 0x16A99B 0xA708A 0x1E3779)) =
        [0x9E, 0x37, 0x79, 0xE3, 0x77, 0xB6, 0xA9, 0x9A, 0xF1, 0xBB, 0xC1, 0x71, 0x56, 0x5A, 0xA6, 0x6D,
         0x4E, 0x11, 0x5E, 0x37, 0x79] := by decide

/-- Patterns A and B of R122. -/
theorem test_pack8w22_examples :
    nums (pack8w22 (slots 0x1 0x2 0x3 0x4 0x5 0x6 0x7 0x8)) =
        [0x00, 0x00, 0x04, 0x00, 0x00, 0x20, 0x00, 0x00, 0xC0, 0x00, 0x04, 0x00, 0x00, 0x14, 0x00, 0x00,
         0x60, 0x00, 0x01, 0xC0, 0x00, 0x08] ∧
      nums (pack8w22 (slots 0x278DDE 0xF1BBC 0x36A99B 0x1E3779 0x5C558 0x2D5336 0x14E115 0x3C6EF3)) =
        [0x9E, 0x37, 0x78, 0xF1, 0xBB, 0xCD, 0xAA, 0x66, 0xDE, 0x37, 0x79, 0x17, 0x15, 0x62, 0xD5, 0x33,
         0x65, 0x38, 0x45, 0x7C, 0x6E, 0xF3] := by decide

/-- Patterns A and B of R123. -/
theorem test_pack8w23_examples :
    nums (pack8w23 (slots 0x1 0x2 0x3 0x4 0x5 0x6 0x7 0x8)) =
        [0x00, 0x00, 0x02, 0x00, 0x00, 0x08, 0x00, 0x00, 0x18, 0x00, 0x00, 0x40, 0x00, 0x00, 0xA0, 0x00,
         0x01, 0x80, 0x00, 0x03, 0x80, 0x00, 0x08] ∧
      nums (pack8w23 (slots 0x4F1BBC 0x1E3779 0x6D5336 0x3C6EF3 0xB8AB0 0x5AA66D 0x29C22A 0x78DDE6)) =
        [0x9E, 0x37, 0x78, 0x78, 0xDD, 0xE7, 0x6A, 0x99, 0xB3, 0xC6, 0xEF, 0x31, 0x71, 0x56, 0x16, 0xA9,
         0x9B, 0x54, 0xE1, 0x15, 0x78, 0xDD, 0xE6] := by decide

/-- Patterns A and B of R124. -/
theorem test_pack8w24_examples :
    nums (pack8w24 (slots 0x1 0x2 0x3 0x4 0x5 0x6 0x7 0x8)) =
        [0x00, 0x00, 0x01, 0x00, 0x00, 0x02, 0x00, 0x00, 0x03, 0x00, 0x00, 0x04, 0x00, 0x00, 0x05, 0x00,
         0x00, 0x06, 0x00, 0x00, 0x07, 0x00, 0x00, 0x08] ∧
      nums (pack8w24 (slots 0x9E3779 0x3C6EF3 0xDAA66D 0x78DDE6 0x171560 0xB54CDA 0x538454 0xF1BBCD)) =
        [0x9E, 0x37, 0x79, 0x3C, 0x6E, 0xF3, 0xDA, 0xA6, 0x6D, 0x78, 0xDD, 0xE6, 0x17, 0x15, 0x60, 0xB5,
         0x4C, 0xDA, 0x53, 0x84, 0x54, 0xF1, 0xBB, 0xCD] := by decide

/-- Patterns A and B of R125. -/
theorem test_pack8w25_examples :
    nums (pack8w25 (slots 0x1 0x2 0x3 0x4 0x5 0x6 0x7 0x8)) =
        [0x00, 0x00, 0x00, 0x80, 0x00, 0x00, 0x80, 0x00, 0x00, 0x60, 0x00, 0x00, 0x40, 0x00, 0x00, 0x28,
         0x00, 0x00, 0x18, 0x00, 0x00, 0x0E, 0x00, 0x00, 0x08] ∧
      nums (pack8w25 (slots 0x13C6EF3 0x78DDE6 0x1B54CDA 0xF1BBCD 0x2E2AC1 0x16A99B4 0xA708A8 0x1E3779B)) =
        [0x9E, 0x37, 0x79, 0x9E, 0x37, 0x79, 0xB6, 0xA9, 0x9B, 0x4F, 0x1B, 0xBC, 0xD1, 0x71, 0x56, 0x0D,
         0xAA, 0x66, 0xD1, 0x4E, 0x11, 0x51, 0xE3, 0x77, 0x9B] := by decide

/-- Patterns A and B of R126. -/
theorem test_pack8w26_examples :
    nums (pack8w26 (slots 0x1 0x2 0x3 0x4 0x5 0x6 0x7 0x8)) =
        [0x00, 0x00, 0x00, 0x40, 0x00, 0x00, 0x20, 0x00, 0x00, 0x0C, 0x00, 0x00, 0x04, 0x00, 0x00, 0x01,
         0x40, 0x00, 0x00, 0x60, 0x00, 0x00, 0x1C, 0x00, 0x00, 0x08] ∧
      nums (pack8w26 (slots 0x278DDE6 0xF1BBCD 0x36A99B4 0x1E3779B 0x5C5582 0x2D53369 0x14E1150 0x3C6EF37)) =
        [0x9E, 0x37, 0x79, 0x8F, 0x1B, 0xBC, 0xDD, 0xAA, 0x66, 0xD1, 0xE3, 0x77, 0x9B, 0x17, 0x15, 0x60,
         0xAD, 0x53, 0x36, 0x95, 0x38, 0x45, 0x43, 0xC6, 0xEF, 0x37] := by decide

/-- Patterns A and B of R127. -/
theorem test_pack8w27_examples :
    nums (pack8w27 (slots 0x1 0x2 0x3 0x4 0x5 0x6 0x7 0x8)) =
        [0x00, 0x00, 0x00, 0x20, 0x00, 0x00, 0x08, 0x00, 0x00, 0x01, 0x80, 0x00, 0x00, 0x40, 0x00, 0x00,
         0x0A, 0x00, 0x00, 0x01, 0x80, 0x00, 0x00, 0x38, 0x00, 0x00, 0x08] ∧
      nums (pack8w27 (slots 0x4F1BBCD 0x1E3779B 0x6D53369 0x3C6EF37 0xB8AB04 0x5AA66D2 0x29C22A0 0x78DDE6E)) =
        [0x9E, 0x37, 0x79, 0xA7, 0x8D, 0xDE, 0x6F, 0x6A, 0x99, 0xB4, 0xBC, 0x6E, 0xF3, 0x71, 0x71, 0x56,
         0x09, 0x6A, 0x99, 0xB4, 0x94, 0xE1, 0x15, 0x07, 0x8D, 0xDE, 0x6E] := by decide

/-- Patterns A and B of R128. -/
theorem test_pack8w28_examples :
    nums (pack8w28 (slots 0x1 0x2 0x3 0x4 0x5 0x6 0x7 0x8)) =
        [0x00, 0x00, 0x00, 0x10, 0x00, 0x00, 0x02, 0x00, 0x00, 0x00, 0x30, 0x00, 0x00, 0x04, 0x00, 0x00,
         0x00, 0x50, 0x00, 0x00, 0x06, 0x00, 0x00, 0x00, 0x70, 0x00, 0x00, 0x08] ∧
      nums (pack8w28 (slots 0x9E3779B 0x3C6EF37 0xDAA66D2 0x78DDE6E 0x1715609 0xB54CDA5 0x5384540 0xF1BBCDC)) =
        [0x9E, 0x37, 0x79, 0xB3, 0xC6, 0xEF, 0x37, 0xDA, 0xA6, 0x6D, 0x27, 0x8D, 0xDE, 0x6E, 0x17, 0x15,
         0x60, 0x9B, 0x54, 0xCD, 0xA5, 0x53, 0x84, 0x54, 0x0F, 0x1B, 0xBC, 0xDC] := by decide

/-- Patterns A and B of R129. -/
theorem test_pack8w29_examples :
    nums (pack8w29 (slots 0x1 0x2 0x3 0x4 0x5 0x6 0x7 0x8)) =
        [0x00, 0x00, 0x00, 0x08, 0x00, 0x00, 0x00, 0x80, 0x00, 0x00, 0x06, 0x00, 0x00, 0x00, 0x40, 0x00,
         0x00, 0x02, 0x80, 0x00, 0x00, 0x18, 0x00, 0x00, 0x00, 0xE0, 0x00, 0x00, 0x08] ∧
      nums (pack8w29 (slots 0x13C6EF37 0x78DDE6E 0x1B54CDA5 0xF1BBCDC 0x2E2AC13 0x16A99B4A 0xA708A81 0x1E3779B9)) =
        [0x9E, 0x37, 0x79, 0xB9, 0xE3, 0x77, 0x9B, 0xB6, 0xA9, 0x9B, 0x4A, 0xF1, 0xBB, 0xCD, 0xC1, 0x71,
         0x56, 0x09, 0xDA, 0xA6, 0x6D, 0x29, 0x4E, 0x11, 0x50, 0x3E, 0x37, 0x79, 0xB9] := by decide

/-- Patterns A and B of R130. -/
theorem test_pack8w30_examples :
    nums (pack8w30 (slots 0x1 0x2 0x3 0x4 0x5 0x6 0x7 0x8)) =
        [0x00, 0x00, 0x00, 0x04, 0x00, 0x00, 0x00, 0x20, 0x00, 0x00, 0x00, 0xC0, 0x00, 0x00, 0x04, 0x00,
         0x00, 0x00, 0x14, 0x00, 0x00, 0x00, 0x60, 0x00, 0x00, 0x01, 0xC0, 0x00, 0x00, 0x08] ∧
      nums (pack8w30 (slots 0x278DDE6E 0xF1BBCDC 0x36A99B4A 0x1E3779B9 0x5C55827 0x2D533695 0x14E11503 0x3C6EF372)) =
        [0x9E, 0x37, 0x79, 0xB8, 0xF1, 0xBB, 0xCD, 0xCD, 0xAA, 0x66, 0xD2, 0x9E, 0x37, 0x79, 0xB9, 0x17,
         0x15, 0x60, 0x9E, 0xD5, 0x33, 0x69, 0x55, 0x38, 0x45, 0x40, 0xFC, 0x6E, 0xF3, 0x72] := by decide

/-- Patterns A and B of R131. -/
theorem test_pack8w31_examples :
    nums (pack8w31 (slots 0x1 0x2 0x3 0x4 0x5 0x6 0x7 0x8)) =
        [0x00, 0x00, 0x00, 0x02, 0x00, 0x00, 0x00, 0x08, 0x00, 0x00, 0x00, 0x18, 0x00, 0x00, 0x00, 0x40,
         0x00, 0x00, 0x00, 0xA0, 0x00, 0x00, 0x01, 0x80, 0x00, 0x00, 0x03, 0x80, 0x00, 0x00, 0x08] ∧
      nums (pack8w31 (slots 0x4F1BBCDC 0x1E3779B9 0x6D533695 0x3C6EF372 0xB8AB04E 0x5AA66D2B 0x29C22A07 0x78DDE6E4)) =
        [0x9E, 0x37, 0x79, 0xB8, 0x78, 0xDD, 0xE6, 0xE7, 0x6A, 0x99, 0xB4, 0xAB, 0xC6, 0xEF, 0x37, 0x21,
         0x71, 0x56, 0x09, 0xD6, 0xA9, 0x9B, 0x4A, 0xD4, 0xE1, 0x15, 0x03, 0xF8, 0xDD, 0xE6, 0xE4] := by decide

/-- Patterns A and B of R132. -/
theorem test_pack8w32_examples :
    nums (pack8w32 (slots 0x1 0x2 0x3 0x4 0x5 0x6 0x7 0x8)) =
        [0x00, 0x00, 0x00, 0x01, 0x00, 0x00, 0x00, 0x02, 0x00, 0x00, 0x00, 0x03, 0x00, 0x00, 0x00, 0x04,
         0x00, 0x00, 0x00, 0x05, 0x00, 0x00, 0x00, 0x06, 0x00, 0x00, 0x00, 0x07, 0x00, 0x00, 0x00, 0x08] ∧
      nums (pack8w32 (slots 0x9E3779B9 0x3C6EF372 0xDAA66D2B 0x78DDE6E4 0x1715609D 0xB54CDA56 0x5384540F 0xF1BBCDC8)) =
        [0x9E, 0x37, 0x79, 0xB9, 0x3C, 0x6E, 0xF3, 0x72, 0xDA, 0xA6, 0x6D, 0x2B, 0x78, 0xDD, 0xE6, 0xE4,
         0x17, 0x15, 0x60, 0x9D, 0xB5, 0x4C, 0xDA, 0x56, 0x53, 0x84, 0x54, 0x0F, 0xF1, 0xBB, 0xCD, 0xC8] := by decide

/-- R101 to R132 through the arbiter (R95, R96): PACK8.W3 on the values of S3 writes `05 39 77` at position 3 of slab 1,
and nothing else changes. -/
theorem test_engine_writes_at_group_address :
    nextOf (exec .pack8w3 (filled 3 8 (slots 0 1 2 3 4 5 6 7) 3 1 0)) =
      some { filled 3 8 (slots 0 1 2 3 4 5 6 7) 3 1 0 with
        mem := { cells := [(35, 0x05), (36, 0x39), (37, 0x77)], zeroed := [0, 1] } } := by decide

/-! ## The commands: worked examples -/

/-- R151's example: from reset, `NEW 3`. -/
theorem test_new_from_reset :
    nextOf (step (State.reset.withFetchWord 40 0x100000003)) =
      some { State.reset with phase := .opened, bw := 3, mem := { cells := [], zeroed := [0] },
                               responses := [.done] } := by decide

/-- R151: NEW in phase Fault clears `err` and zero-fills slab 0. -/
theorem test_new_leaves_fault :
    (after trapped (exec (.new 32) trapped)).phase = .opened ∧ (after trapped (exec (.new 32) trapped)).err = .none ∧
      (after trapped (exec (.new 32) trapped)).slabPos = 0 := by decide

/-- R152's example: `WRITE 7` completes the group of S3 and packs `05 39 77`. -/
theorem test_write_packs_group :
    nextOf (exec (.write 7) (filled 3 7 (slots 0 1 2 3 4 5 6 0) 0 0 0)) =
      some { filled 3 0 (slots 0 1 2 3 4 5 6 7) 3 0 8 with
        mem := { cells := [(0, 0x05), (1, 0x39), (2, 0x77)], zeroed := [0] }, responses := [.done] } := by decide

/-- R141, R142: with `W = 12` and 32-byte slabs the second group fills the slab and rotates it. -/
theorem test_write_rotates :
    (after (opened 12) (exec (.write 1) (filled 12 7 (slots 0 0 0 0 0 0 0 0) 12 0 8))).frozenCnt = 1 ∧
      (after (opened 12) (exec (.write 1) (filled 12 7 (slots 0 0 0 0 0 0 0 0) 12 0 8))).slabPos = 0 := by decide

/-- R154's example: one value 0x99 of width 8 waiting at position 8 keeps one byte of its group. -/
theorem test_finish_keeps_waiting_byte :
    (after (opened 8) (exec .finish (filled 8 1 (slots 0x99 1 2 3 4 5 6 7) 8 0 8))).tailLen = 9 ∧
      (after (opened 8) (exec .finish (filled 8 1 (slots 0x99 1 2 3 4 5 6 7) 8 0 8))).totalValues = 9 ∧
      (after (opened 8) (exec .finish (filled 8 1 (slots 0x99 1 2 3 4 5 6 7) 8 0 8))).mem.cells = [(8, 0x99)] := by decide

/-- R154's example: `bw = 32`, one value 0xDEADBEEF: `tail_len = 4`, sequence `DE AD BE EF`. -/
theorem test_finish_width_32 :
    (after (opened 32) (exec .finish (filled 32 1 (slots 0xDEADBEEF 0 0 0 0 0 0 0) 0 0 0))).responses = [.size 4] ∧
      outSeq (after (opened 32) (exec .finish (filled 32 1 (slots 0xDEADBEEF 0 0 0 0 0 0 0) 0 0 0))) =
        [some 0xDE, some 0xAD, some 0xBE, some 0xEF] := by decide +kernel

/-- R156's example: the third DRAIN responds `byte(0x77, 1)`. -/
theorem test_drain_last_byte :
    nextOf (exec .drain { finished with outIdx := 2 }) =
      some { finished with outIdx := 3, responses := [.byte 0x77 true] } := by decide

/-- R155's example: `W = 12`, one frozen slab of 32 bytes, `tail_len = 6`: the unused bytes 24 to 31 are skipped. -/
theorem test_drain_skips_unused_bytes :
    outLen { filled 12 0 (slots 0 0 0 0 0 0 0 0) 12 1 20 with tailLen := 6 } = 30 ∧
      outAddr { filled 12 0 (slots 0 0 0 0 0 0 0 0) 12 1 20 with tailLen := 6 } 23 = 23 ∧
      outAddr { filled 12 0 (slots 0 0 0 0 0 0 0 0) 12 1 20 with tailLen := 6 } 24 = 32 ∧
      outAddr { filled 12 0 (slots 0 0 0 0 0 0 0 0) 12 1 20 with tailLen := 6 } 29 = 37 := by decide

/-- R157's examples: `bw = 1`, eight values packed: `size(1)`; one value waiting: `size(0)`. -/
theorem test_rsize_counts_packed_values :
    nextOf (exec .rsize (filled 1 0 (slots 1 0 1 0 1 0 1 0) 1 0 8)) =
        some { filled 1 0 (slots 1 0 1 0 1 0 1 0) 1 0 8 with responses := [.size 1] } ∧
      nextOf (exec .rsize (filled 1 1 (slots 1 0 0 0 0 0 0 0) 0 0 0)) =
        some { filled 1 1 (slots 1 0 0 0 0 0 0 0) 0 0 0 with responses := [.size 0] } := by decide

/-- R158's examples: `SLAB_SIZE = 32`, `frozen_cnt = 1`: `size(96)`; the default slab straight after NEW:
`size(8388640)`. -/
theorem test_asize_counts_whole_slabs :
    nextOf (exec .asize (filled 12 0 (slots 0 0 0 0 0 0 0 0) 0 1 16)) =
        some { filled 12 0 (slots 0 0 0 0 0 0 0 0) 0 1 16 with responses := [.size 96] } ∧
      nextOf (exec .asize { State.reset with phase := .opened, bw := 3 }) =
        some { State.reset with phase := .opened, bw := 3, responses := [.size 8388640] } := by decide

/-! ## Witnesses: for every statement with hypotheses, concrete values that meet them together -/

/-- The widths 1 and 32: EnginesEqualPackGeneric, ShiftOrFormsEqualWiringForms, UniformLanesGiveUniformBytes. -/
theorem witness_width_range :
    (1 ≤ 1 ∧ 1 ≤ 32 ∧ (engineOf 1).isSome = true) ∧ (1 ≤ 32 ∧ 32 ≤ 32 ∧ (engineOf 32).isSome = true) :=
  ⟨⟨by decide, by decide, rfl⟩, ⟨by decide, by decide, rfl⟩⟩

theorem witness_DecodeInvertsEncode : (Instr.write 0xFFFFFFFF).wellFormed = true ∧ Instr.pack8w32.wellFormed = true := by
  decide

theorem witness_EncodeInvertsDecode :
    decode (.command 0x1FFFFFFFF) = .ok (.new 0xFFFFFFFF) ∧ decode (.select 32) = .ok .pack8w32 := by decide

theorem witness_WordDecodesToTheOneMatchingRow :
    Instr.drain.row ∈ opcodeTable ∧ Instr.drain.row.matchesWord (.command 0x600000000) = true ∧
      Instr.pack8w1.row ∈ opcodeTable ∧ Instr.pack8w1.row.matchesWord (.select 1) = true ∧
      decode (.command 0x2FFFFFFFF) = .ok (.write 0xFFFFFFFF) := by decide

/-- The words at the ends of the four reserved ranges, presented to a legal machine. -/
theorem witness_ReservedWordsFaultPvCmd :
    (opened 3).params.legal = true ∧ (opened 3).grant = false ∧
      opField 0x000000000 = 0 ∧ opField 0x7FFFFFFFF = 7 ∧
      (3 ≤ (opField 0x300000001).toNat ∧ argField 0x300000001 ≠ 0) ∧
      ((opField 0x6FFFFFFFF).toNat ≤ 6 ∧ argField 0x6FFFFFFFF ≠ 0) ∧
      faultOf (step { opened 3 with cmds := [0x300000001] }) = some .pvCmd := by decide

theorem witness_SelectNamesEngineOfItsNumber :
    (1 ≤ (1 : Select).toNat ∧ (1 : Select).toNat ≤ 32) ∧ (1 ≤ (32 : Select).toNat ∧ (32 : Select).toNat ≤ 32) ∧
      (0 : Select).toNat = 0 ∧ 33 ≤ (33 : Select).toNat ∧ 33 ≤ (63 : Select).toNat := by decide

theorem witness_EncodeLineExpandsOrIsRefused :
    ((0xFFFFFFFF : Nat) < 2 ^ 32 ∧ ∀ x ∈ [0, 0xFFFFFFFF], x < 2 ^ 32) ∧ 2 ^ 32 ≤ (0x100000000 : Nat) ∧
      ∃ x ∈ [0, 0x100000000], 2 ^ 32 ≤ x := by decide

theorem witness_StepRunsDecodedCommand :
    (opened 3).params.legal = true ∧ (opened 3).grant = false ∧
      { opened 3 with cmds := [0x200000007] }.cmds = 0x200000007 :: [] ∧ decodeCommand 0x200000007 = .ok (.write 7) ∧
      (Instr.write 7).wellFormed = true := by decide

/-- The smallest and the largest engine, and a select that names none. -/
theorem witness_StepRunsSelectedEngine :
    (opened 1).params.legal = true ∧ { opened 1 with grant := true }.grant = true ∧
      decodeSelect (opened 1).bw = .ok .pack8w1 ∧ decodeSelect (opened 32).bw = .ok .pack8w32 ∧
      faultOf (step { opened 0 with grant := true }) = some .noEngine := by decide

theorem witness_PresentedWordRunsNext :
    State.reset.params.legal = true ∧ decodeTableWord 40 0x200000007 = some (.write 7) ∧
      encode (.write 7) = .command 0x200000007 ∧ decodeTableWord 8 32 = some .pack8w32 ∧
      encode .pack8w32 = .select 32 := by decide

theorem witness_IdleStepChangesNothing :
    State.reset.params.legal = true ∧ State.reset.grant = false ∧ State.reset.cmds = [] := by decide

theorem witness_IllegalParametersAreRefused :
    (State.resetWith ⟨31, 1⟩).params.slabSize < 32 ∧ (State.resetWith ⟨32, 0⟩).params.maxSlabs = 0 ∧
      2 ^ 60 ≤ (State.resetWith ⟨2 ^ 59, 2⟩).params.slabSize * (State.resetWith ⟨2 ^ 59, 2⟩).params.maxSlabs := by decide

theorem witness_EngineBitsFollowLayout : engineOf 32 = some pack8w32 ∧ (31 : Nat) < 32 ∧ (7 : Nat) < 8 :=
  ⟨rfl, by decide, by decide⟩

theorem witness_PackGenericFollowsLayout :
    lanesFit 1 (slots 1 1 1 1 1 1 1 1) = true ∧ (0 : Nat) < 1 ∧
      lanesFit 32 (slots 0xFFFFFFFF 0 0 0 0 0 0 0xFFFFFFFF) = true ∧ (31 : Nat) < 32 := by decide

theorem witness_EachLaneBitDrivesOneOutputBit : (7 : Nat) < 8 ∧ 1 ≤ 5 ∧ 5 ≤ 32 ∧ (4 : Nat) < 5 ∧ (0 : Nat) < 5 := by decide

/-- R98's example: four values of width 12 leave bytes 6 to 11 zero. -/
theorem witness_ZeroLanesGiveZeroBytes :
    (∀ i : Fin 8, 4 ≤ i.val → (slots 0xFFF 0xFFF 0xFFF 0xFFF 0 0 0 0)[i] = 0) ∧ ceil8 (4 * 12) ≤ 6 ∧ 6 < 12 ∧
      (∀ i : Fin 8, 1 ≤ i.val → (slots 1 0 0 0 0 0 0 0)[i] = 0) ∧ 1 * 1 ≤ 8 * 0 + (7 - 6) ∧ (0 : Nat) < 1 ∧
      (∀ i : Fin 8, 0 ≤ i.val → (slots 0 0 0 0 0 0 0 0)[i] = 0) ∧ ceil8 (0 * 12) ≤ 0 := by decide

theorem witness_UnpackInvertsPackGeneric :
    lanesFit 3 (slots 0 1 2 3 4 5 6 7) = true ∧ nums (packGeneric 3 (slots 0 1 2 3 4 5 6 7)) = [0x05, 0x39, 0x77] ∧
      unpack8 3 [0x05, 0x39, 0x77] = [0, 1, 2, 3, 4, 5, 6, 7] := by decide

/-- The last group a slab of 32 bytes holds, at `W = 1` and at `W = 32`, in the last slab. -/
theorem witness_SelectedEngineWritesItsBytes :
    ∀ c ∈ [(Instr.pack8w1, 1, filled 1 0 (slots 1 0 1 0 1 0 1 0) 31 1 0),
        (Instr.pack8w32, 32, filled 32 0 (slots 1 2 3 4 5 6 7 0xFFFFFFFF) 0 1 0)],
      c.1.engineWidth = some c.2.1 ∧ c.2.2.width = c.2.1 ∧ lanesFit c.2.1 c.2.2.inReg = true ∧
        c.2.2.slabPos + c.2.1 ≤ c.2.2.params.slabSize ∧ c.2.2.frozenCnt < c.2.2.params.maxSlabs := by decide

theorem witness_UnselectedEngineHasNoEffect :
    Instr.pack8w4.engineWidth = some 4 ∧ (opened 3).width ≠ 4 := by decide

theorem witness_SelectedEngineFaultsOutsideItsContract :
    Instr.pack8w3.engineWidth = some 3 ∧ (filled 3 0 (slots 0 0 0 0 0 0 0 8) 0 0 0).width = 3 ∧
      2 ^ 3 ≤ ((filled 3 0 (slots 0 0 0 0 0 0 0 8) 0 0 0).inReg[(7 : Fin 8)]).toNat ∧
      lanesFit 3 (filled 3 0 (slots 0 0 0 0 0 0 0 7) 30 0 0).inReg = true ∧
      (filled 3 0 (slots 0 0 0 0 0 0 0 7) 30 0 0).params.slabSize < 30 + 3 := by decide

/-- The last byte of the store, and the first address past it. -/
theorem witness_MemWriteThenRead :
    63 + [(0xAB : Byte)].length ≤ (opened 3).params.maxSlabs * (opened 3).params.slabSize ∧
      (opened 3).params.maxSlabs * (opened 3).params.slabSize < 64 + [(0xAB : Byte)].length ∧
      (opened 3).params.maxSlabs * (opened 3).params.slabSize ≤ 64 := by decide

theorem witness_InitSlabIsTheZeroFill :
    0 < (filled 3 0 (slots 0 0 0 0 0 0 0 0) 5 1 0).params.slabSize ∧
      (filled 3 0 (slots 0 0 0 0 0 0 0 0) 5 1 0).frozenCnt < (filled 3 0 (slots 0 0 0 0 0 0 0 0) 5 1 0).params.maxSlabs := by
  decide

/-- Two stores written in different orders, one of them with a byte that went back to 0x00. -/
theorem witness_CanonicalStoresThatReadAlikeAreEqual :
    (Memory.writeBytes 32 ⟨[], [0]⟩ 5 [0xAB, 0x01]).wf 32 ∧
      ((((Memory.writeByte 32 ⟨[], [0]⟩ 6 1).writeByte 32 7 9).writeByte 32 5 0xAB).writeByte 32 7 0).wf 32 ∧
      Memory.writeBytes 32 ⟨[], [0]⟩ 5 [0xAB, 0x01] =
        (((Memory.writeByte 32 ⟨[], [0]⟩ 6 1).writeByte 32 7 9).writeByte 32 5 0xAB).writeByte 32 7 0 := by decide

theorem witness_NewOpensSession :
    trapped.params.legal = true ∧ (1 ≤ (1 : BitVec 32).toNat ∧ (1 : BitVec 32).toNat ≤ 32) ∧
      (1 ≤ (32 : BitVec 32).toNat ∧ (32 : BitVec 32).toNat ≤ 32) ∧ (0 : BitVec 32).toNat < 1 ∧
      32 < (33 : BitVec 32).toNat := by decide

/-- The first slot at `W = 1`, and the seventh at `W = 32`, with the largest value. -/
theorem witness_WriteFillsOneSlot :
    ((opened 1).phase = .opened ∧ (1 : BitVec 32).toNat < 2 ^ (opened 1).width ∧ (opened 1).inCnt.toNat < 7) ∧
      ((filled 32 6 (slots 1 2 3 4 5 6 0 0) 0 0 0).phase = .opened ∧
        (0xFFFFFFFF : BitVec 32).toNat < 2 ^ (filled 32 6 (slots 1 2 3 4 5 6 0 0) 0 0 0).width ∧
        (filled 32 6 (slots 1 2 3 4 5 6 0 0) 0 0 0).inCnt.toNat < 7) := by decide

/-- `W = 16` at position 0, with the largest value: after the group the slab has room for exactly one more. -/
theorem witness_WritePacksFullGroup :
    restInv roomForOneMore ∧ roomForOneMore.phase = .opened ∧ (0xFFFF : BitVec 32).toNat < 2 ^ roomForOneMore.width ∧
      roomForOneMore.inCnt = 7 ∧ 1 ≤ roomForOneMore.width ∧ roomForOneMore.width ≤ 32 ∧
      (∀ l : Fin 8, l.val < 7 → (roomForOneMore.inReg[l]).toNat < 2 ^ roomForOneMore.width) ∧
      roomForOneMore.slabPos + roomForOneMore.width + roomForOneMore.width ≤ roomForOneMore.params.slabSize ∧
      roomForOneMore.frozenCnt < roomForOneMore.params.maxSlabs := by decide

/-- `W = 16` at position 16: the group ends where the slab ends. -/
theorem witness_WriteRotatesFullSlab :
    restInv lastRoom ∧ lastRoom.phase = .opened ∧ (0 : BitVec 32).toNat < 2 ^ lastRoom.width ∧ lastRoom.inCnt = 7 ∧
      1 ≤ lastRoom.width ∧ lastRoom.width ≤ 32 ∧
      (∀ l : Fin 8, l.val < 7 → (lastRoom.inReg[l]).toNat < 2 ^ lastRoom.width) ∧
      lastRoom.slabPos + lastRoom.width ≤ lastRoom.params.slabSize ∧
      lastRoom.params.slabSize < lastRoom.slabPos + lastRoom.width + lastRoom.width ∧
      lastRoom.frozenCnt + 1 < lastRoom.params.maxSlabs := by decide

theorem witness_WriteTrapsNoMem :
    restInv lastRoomOfStore ∧ lastRoomOfStore.phase = .opened ∧ (0 : BitVec 32).toNat < 2 ^ lastRoomOfStore.width ∧
      lastRoomOfStore.inCnt = 7 ∧ 1 ≤ lastRoomOfStore.width ∧ lastRoomOfStore.width ≤ 32 ∧
      (∀ l : Fin 8, l.val < 7 → (lastRoomOfStore.inReg[l]).toNat < 2 ^ lastRoomOfStore.width) ∧
      lastRoomOfStore.slabPos + lastRoomOfStore.width ≤ lastRoomOfStore.params.slabSize ∧
      lastRoomOfStore.params.slabSize < lastRoomOfStore.slabPos + lastRoomOfStore.width + lastRoomOfStore.width ∧
      lastRoomOfStore.frozenCnt + 1 = lastRoomOfStore.params.maxSlabs := by decide

theorem witness_WriteViolations :
    finished.phase ≠ .opened ∧ (opened 3).phase = .opened ∧ 2 ^ (opened 3).width ≤ (8 : BitVec 32).toNat ∧
      (opened 32).width = 32 := by decide

theorem witness_FinishWithEmptyRegister :
    restInv (filled 3 0 (slots 0 0 0 0 0 0 0 0) 3 0 8) ∧ (filled 3 0 (slots 0 0 0 0 0 0 0 0) 3 0 8).phase = .opened ∧
      (filled 3 0 (slots 0 0 0 0 0 0 0 0) 3 0 8).inCnt = 0 := by decide

/-- One value waiting at `W = 32`, and seven at `W = 16` in the last room of the last slab. -/
theorem witness_FinishFlushesWaitingValues :
    ∀ s ∈ [filled 32 1 (slots 0xFFFFFFFF 2 3 4 5 6 7 8) 0 1 8, lastRoomOfStore],
      restInv s ∧ s.phase = .opened ∧ 1 ≤ s.inCnt.toNat ∧ s.inCnt.toNat ≤ 7 ∧ 1 ≤ s.width ∧ s.width ≤ 32 ∧
        (∀ l : Fin 8, l.val < s.inCnt.toNat → (s.inReg[l]).toNat < 2 ^ s.width) ∧
        s.slabPos + s.width ≤ s.params.slabSize ∧ s.frozenCnt < s.params.maxSlabs := by decide

theorem witness_FinishOutsideOpenFaults :
    finished.phase ≠ .opened ∧ completes (exec .finish (opened 3)) = true := by decide

/-- The three clauses: outside Finalized, past the end, and at the first and the last byte. -/
theorem witness_DrainDeliversNextByte :
    (opened 3).phase ≠ .finalized ∧ finished.phase = .finalized ∧
      outLen { finished with outIdx := 3 } ≤ ({ finished with outIdx := 3 } : State).outIdx.toNat ∧
      restInv finished ∧ finished.outIdx.toNat < outLen finished ∧ restInv { finished with outIdx := 2 } ∧
      ({ finished with outIdx := 2 } : State).outIdx.toNat < outLen { finished with outIdx := 2 } := by decide

theorem witness_OutSeqConcatenatesSlabs :
    1 ≤ (opened 1).width ∧ (opened 32).width ≤ (opened 32).params.slabSize := by decide

theorem witness_OutputIsFixedUntilNew :
    finished.phase = .finalized ∧ Instr.drain.engineWidth = none ∧ (∀ w, Instr.drain ≠ .new w) ∧
      exec .drain finished = .next (after finished (exec .drain finished)) :=
  ⟨rfl, rfl, by simp, next_after (by decide)⟩

/-- Three bytes; and the empty byte sequence, where no DRAIN is legal. -/
theorem witness_DrainsDeliverTheByteSequence :
    restInv { finished with cmds := List.replicate 4 (commandWord 6 0) } ∧ finished.phase = .finalized ∧
      finished.outIdx = 0 ∧ finished.grant = false ∧ outLen finished + 1 = 4 ∧
      restInv { opened 3 with phase := .finalized, cmds := [commandWord 6 0] } ∧
      outLen { opened 3 with phase := .finalized } + 1 = 1 := by decide

theorem witness_RsizeAnswersReportedSize :
    (opened 3).phase = .opened ∧ restInv (opened 3) ∧ finished.phase = .finalized ∧ restInv finished ∧
      State.reset.phase = .fresh ∧ trapped.phase = .faulted := by decide

theorem witness_AsizeAnswersAllocatedSize :
    (opened 3).phase = .opened ∧ restInv (opened 3) ∧ finished.phase = .finalized ∧ restInv finished ∧
      State.reset.phase = .fresh ∧ trapped.phase = .faulted := by decide

theorem witness_PhaseTransitionTable :
    completes (exec (.new 3) State.reset) = true ∧ completes (exec (.write 7) (opened 3)) = true ∧
      completes (exec .finish (opened 3)) = true ∧ completes (exec .drain finished) = true ∧
      completes (exec .rsize finished) = true ∧ completes (exec .asize (opened 3)) = true ∧
      completes (exec .pack8w3 (opened 3)) = true := by decide

theorem witness_OnlyWriteRaisesNoMem :
    lastRoomOfStore.phase ≠ .faulted ∧
      exec (.write 0) lastRoomOfStore =
        .next (after trapped (exec (.write 0) lastRoomOfStore)) ∧
      (after trapped (exec (.write 0) lastRoomOfStore)).phase = .faulted :=
  ⟨by decide, next_after (by decide), by decide⟩

theorem witness_FaultIsLeftOnlyByNew :
    trapped.phase = .faulted ∧ restInv trapped ∧ Instr.rsize.engineWidth = none ∧ (∀ w, Instr.rsize ≠ .new w) ∧
      (Instr.new 32).engineWidth = none ∧ trapped.params.legal = true ∧ 1 ≤ (32 : BitVec 32).toNat ∧
      (32 : BitVec 32).toNat ≤ 32 ∧
      exec (.new 32) trapped = .next (after trapped (exec (.new 32) trapped)) :=
  ⟨rfl, by decide, rfl, by simp, rfl, by decide, by decide, by decide, next_after (by decide)⟩

/-- A command that meets a violation and one that meets none, under the invariant. -/
theorem witness_CommandFaultsExactlyOnViolation :
    restInv (opened 3) ∧ (Instr.write 8).engineWidth = none ∧ violation (.write 8) (opened 3) = some .pvRange ∧
      violation (.write 7) (opened 3) = none ∧ restInv trapped ∧ violation (.write 8) trapped = some .pvPhase ∧
      restInv { finished with outIdx := 3 } ∧ violation .drain { finished with outIdx := 3 } = some .pvDrain ∧
      violation (.new 33) State.reset = some .pvWidth ∧ restInv { trapped with cmds := [commandWord 0 0] } ∧
      trapped.grant = false ∧ ∀ r ∈ opcodeTable, r.matchesWord (.command (commandWord 0 0)) = false := by decide

theorem witness_ResetSatisfiesInvariant : (small 1).legal = true ∧ State.reset.params.legal = true := by decide

/-- A step from each phase under the invariant. -/
theorem witness_StepKeepsInvariant :
    restInv { State.reset with cmds := [commandWord 1 3] } ∧
      completes (step { State.reset with cmds := [commandWord 1 3] }) = true ∧
      restInv { opened 3 with cmds := [commandWord 3 0] } ∧
      completes (step { opened 3 with cmds := [commandWord 3 0] }) = true ∧
      restInv { finished with cmds := [commandWord 6 0] } ∧
      completes (step { finished with cmds := [commandWord 6 0] }) = true ∧
      restInv { trapped with cmds := [commandWord 1 32] } ∧
      completes (step { trapped with cmds := [commandWord 1 32] }) = true ∧
      restInv { finished with grant := true } ∧ completes (step { finished with grant := true }) = true := by decide

theorem witness_CountersNeverWrap :
    restInv (opened 3) ∧ (opened 3).phase ≠ .fresh ∧ restInv finished ∧ finished.phase ≠ .fresh ∧ restInv trapped ∧
      trapped.phase ≠ .fresh := by decide

theorem witness_FrozenCountFromTotalValues :
    restInv (filled 12 0 (slots 0 0 0 0 0 0 0 0) 12 1 24) ∧
      (filled 12 0 (slots 0 0 0 0 0 0 0 0) 12 1 24).phase = .opened := by decide

theorem witness_FinishSizeIsReportedSize :
    restInv (filled 8 1 (slots 0x99 0 0 0 0 0 0 0) 8 0 8) ∧
      exec .finish (filled 8 1 (slots 0x99 0 0 0 0 0 0 0) 8 0 8) =
        .next (after finished (exec .finish (filled 8 1 (slots 0x99 0 0 0 0 0 0 0) 8 0 8))) :=
  ⟨by decide, next_after (by decide)⟩

theorem witness_PackedBytesAreReadOnly :
    lastRoom.slabPos ≤ (small 2).slabSize ∧ (∀ w, Instr.write 0 ≠ .new w) ∧
      exec (.write 0) lastRoom =
        .next (after finished (exec (.write 0) lastRoom)) ∧
      15 < groupAddr lastRoom :=
  ⟨by decide, by simp, next_after (by decide), by decide⟩

/-- Two start states that differ in every register and byte the spec leaves open. -/
theorem witness_ResetContentsAreNeverObserved :
    isStart { State.resetWith (small 2) with cmds := [commandWord 1 3] } ∧
      isStart { State.resetWith (small 2) with
        cmds := [commandWord 1 3], bw := 63, inReg := slots 9 9 9 9 9 9 9 9, inCnt := 9, slabPos := 40, frozenCnt := 7,
        totalValues := 5, tailLen := 3, outIdx := 2, mem := { cells := [(33, 0xAA)], zeroed := [0] } } := by decide

/-- Seven values of width 32 in a store that holds one group, from phase Fault; and no values at all. -/
theorem witness_SessionEncodesItsValues :
    restInv { trapped with cmds := encodeStream 32 [1, 2, 3, 4, 5, 6, 0xFFFFFFFF] ++ [] } ∧ trapped.grant = false ∧
      (∀ x ∈ ([1, 2, 3, 4, 5, 6, 0xFFFFFFFF] : List Slot), x.toNat < 2 ^ (32 : BitVec 32).toNat) ∧
      7 / 8 < trapped.params.maxSlabs * trapped.params.gps (32 : BitVec 32).toNat ∧
      restInv { opened 3 with cmds := encodeStream 1 [] ++ [commandWord 4 0] } :=
  ⟨by decide, rfl, by simp, by decide, by decide⟩

/-- Eight values of width 32 in a store that holds one group. -/
theorem witness_SessionTrapsWhenStoreIsFull :
    restInv { trapped with cmds := commandWord 1 32 :: (([1, 2, 3, 4, 5, 6, 7, 8] : List Slot).map (commandWord 2) ++ []) } ∧
      (∀ x ∈ ([1, 2, 3, 4, 5, 6, 7, 8] : List Slot), x.toNat < 2 ^ (32 : BitVec 32).toNat) ∧
      ([1, 2, 3, 4, 5, 6, 7, 8] : List Slot).length =
        8 * (trapped.params.maxSlabs * trapped.params.gps (32 : BitVec 32).toNat) :=
  ⟨by decide, by simp, by decide⟩

/-- The session of S4 (95 section 1), nine values of width 8. -/
theorem witness_DecoderRecoversValues :
    (∀ x ∈ ([0x11, 0x22, 0x33, 0x44, 0x55, 0x66, 0x77, 0x88, 0x99] : List Slot), x.toNat < 2 ^ 8) ∧
      nums (packSeq 8 [0x11, 0x22, 0x33, 0x44, 0x55, 0x66, 0x77, 0x88, 0x99]) =
        [0x11, 0x22, 0x33, 0x44, 0x55, 0x66, 0x77, 0x88, 0x99] :=
  ⟨by simp, by decide⟩

theorem witness_GroupAlignmentAndLocality :
    ([0, 1, 2, 3, 4, 5, 6, 7] : List Slot).length % 8 = 0 ∧
      8 * 1 ≤ ([0, 1, 2, 3, 4, 5, 6, 7, 1] : List Slot).length ∧
      ([0, 1, 2, 3, 4, 5, 6, 7, 1] : List Slot).take (8 * 1) = ([0, 1, 2, 3, 4, 5, 6, 7] : List Slot).take (8 * 1) := by
  decide

end Sys2Proof.Tests
end

section
/-! SUPPORT. The constraints on the parameters (spec/00_scope.md R6), and the step of an instance outside them
(spec/93_implementation_defined.md U12). -/

namespace Sys2Proof

/-- R6's constraints as propositions. -/
theorem Params.legal_iff (p : Params) :
    p.legal = true ↔ 32 ≤ p.slabSize ∧ 1 ≤ p.maxSlabs ∧ p.slabSize * p.maxSlabs < 2 ^ 60 := by
  simp only [Params.legal, Bool.and_eq_true, decide_eq_true_eq, and_assoc]

/-- A configuration is illegal exactly when it breaks one of R6's constraints. -/
theorem Params.legal_eq_false_iff (p : Params) :
    p.legal = false ↔ p.slabSize < 32 ∨ p.maxSlabs = 0 ∨ 2 ^ 60 ≤ p.slabSize * p.maxSlabs := by
  rw [← Bool.not_eq_true, p.legal_iff]
  omega

end Sys2Proof

namespace Sys2Proof.Machine

/-- The parameters are looked at before the grant and the command stream: nothing of the rest of the state matters. -/
theorem step_of_illegal {s : State} (hl : s.params.legal = false) : step s = .refused .illegalParams :=
  if_neg (Bool.eq_false_iff.mp hl)

/-- Settles O12: breaking any one of R6's constraints makes the parameters illegal, and `step` refuses those. -/
theorem illegalParametersAreRefused : Obligations.IllegalParametersAreRefused := fun s broken =>
  step_of_illegal (s.params.legal_eq_false_iff.mpr broken)

end Sys2Proof.Machine
end

section
/-! SUPPORT. Every step keeps the invariant of the machine at rest (spec/10_state.md R35, R36, R37, R175). The invariant
is cut into two parts that the instructions keep for different reasons: what only the parameters and the slab store
decide (`StoreInv`), and the counters of a session between two groups (`countersInv`), which the group-pack step keeps
whether WRITE goes on in the slab, rotates or traps after it. -/

namespace Sys2Proof

/-! ## Arithmetic of groups and slabs (R7) -/

theorem Params.fill_le_slabSize (p : Params) (W : Nat) : p.fill W ≤ p.slabSize := Nat.div_mul_le_self _ _

/-- A position with room for no further group is the fill of the slab. -/
theorem Params.fill_eq_of_full {p : Params} {W sp : Nat} (aligned : sp % W = 0) (inside : sp ≤ p.slabSize)
    (full : p.slabSize < sp + W) : sp / W = p.gps W ∧ sp = p.fill W := by
  have whole : sp / W * W = sp := Nat.div_mul_cancel (Nat.dvd_of_mod_eq_zero aligned)
  have count : p.slabSize / W = sp / W :=
    Nat.div_eq_of_lt_le (by omega) (by rw [Nat.succ_mul]; omega)
  exact ⟨count.symm, by rw [Params.fill, Params.gps, count, whole]⟩

/-- A position inside the slab that groups reach is inside the fill. -/
theorem Params.le_fill {p : Params} {W sp : Nat} (aligned : sp % W = 0) (inside : sp ≤ p.slabSize) : sp ≤ p.fill W :=
  calc sp = sp / W * W := (Nat.div_mul_cancel (Nat.dvd_of_mod_eq_zero aligned)).symm
    _ ≤ p.fill W := Nat.mul_le_mul_right W (Nat.div_le_div_right inside)

/-- The groups packed before the last slab is full are fewer than the bytes of the store. -/
theorem groups_le_storeBytes {p : Params} {W f sp : Nat} (hf : f < p.maxSlabs) (inside : sp ≤ p.slabSize) :
    f * p.gps W + sp / W ≤ p.slabSize * p.maxSlabs :=
  calc f * p.gps W + sp / W
      ≤ f * p.slabSize + p.slabSize :=
        Nat.add_le_add (Nat.mul_le_mul_left f (Nat.div_le_self _ _)) ((Nat.div_le_self _ _).trans inside)
    _ = p.slabSize * (f + 1) := by ring
    _ ≤ p.slabSize * p.maxSlabs := Nat.mul_le_mul_left _ hf

/-- The bytes of the groups counted by the frozen slabs and the position. -/
theorem groups_mul_width {p : Params} {W f sp : Nat} (aligned : sp % W = 0) :
    (f * p.gps W + sp / W) * W = f * p.fill W + sp := by
  rw [Nat.add_mul, Nat.div_mul_cancel (Nat.dvd_of_mod_eq_zero aligned), Params.fill, Nat.mul_assoc]

/-- Whole bytes come out of `ceil8`. -/
theorem ceil8_add (n k : Nat) : ceil8 (8 * n + k) = n + ceil8 k := by
  unfold ceil8
  omega

/-- Fewer than eight values of a group take no more bytes than the group. -/
theorem ceil8_mul_le {c W : Nat} (h : c ≤ 8) : ceil8 (c * W) ≤ W := by
  have := Nat.mul_le_mul_right W h
  unfold ceil8
  omega

/-- `total_values` does not wrap while it counts the groups of the store (R160). -/
theorem totalValues_add {n : Word64} {g c B : Nat} (hn : n.toNat = 8 * g) (hg : g ≤ B) (hB : B < 2 ^ 60) (hc : c ≤ 8) :
    (n + BitVec.ofNat 64 c).toNat = 8 * g + c := by
  rw [BitVec.toNat_add, BitVec.toNat_ofNat, hn]
  omega

end Sys2Proof

namespace Sys2Proof.Machine

/-! ## The invariant taken apart -/

/-- The part of `restInv` that is about the parameters and the slab store alone. -/
def StoreInv (p : Params) (m : Memory) : Prop :=
  p.legal = true ∧ m.wf p.slabSize ∧ m.within p.slabSize p.maxSlabs

theorem restInv_iff {s : State} : restInv s ↔ StoreInv s.params s.mem ∧ phaseInv s = true := by
  simp only [restInv, StoreInv, and_assoc]

theorem phaseInv_of_fresh {s : State} (h : s.phase = .fresh) : phaseInv s = true ↔ s.err = .none := by
  simp [phaseInv, h]

theorem phaseInv_of_opened {s : State} (h : s.phase = .opened) : phaseInv s = true ↔ openInv s := by
  simp only [phaseInv, h, decide_eq_true_eq]

theorem phaseInv_of_finalized {s : State} (h : s.phase = .finalized) : phaseInv s = true ↔ finalInv s := by
  simp only [phaseInv, h, decide_eq_true_eq]

theorem phaseInv_of_faulted {s : State} (h : s.phase = .faulted) : phaseInv s = true ↔ faultInv s := by
  simp only [phaseInv, h, decide_eq_true_eq]

theorem restInv_of_opened {s : State} (store : StoreInv s.params s.mem) (opened : s.phase = .opened) (inv : openInv s) :
    restInv s :=
  restInv_iff.2 ⟨store, (phaseInv_of_opened opened).2 inv⟩

theorem restInv_of_finalized {s : State} (store : StoreInv s.params s.mem) (finalized : s.phase = .finalized)
    (inv : finalInv s) : restInv s :=
  restInv_iff.2 ⟨store, (phaseInv_of_finalized finalized).2 inv⟩

theorem restInv_of_faulted {s : State} (store : StoreInv s.params s.mem) (faulted : s.phase = .faulted)
    (inv : faultInv s) : restInv s :=
  restInv_iff.2 ⟨store, (phaseInv_of_faulted faulted).2 inv⟩

/-- The counters of a session that packs whole groups, anywhere in the slab (R35 (b), (c), (d), (f), (g); R37). -/
def countersInv (s : State) : Prop :=
  sessionInv s ∧ s.err = .none ∧ s.slabPos ≤ s.params.slabSize ∧
    s.totalValues.toNat = 8 * (s.frozenCnt * s.params.gps s.width + s.slabPos / s.width) ∧
    s.tailLen = 0 ∧ s.outIdx = 0

/-- Phase Open asks three things more of the counters: a slot is free, a group has room, and the waiting values fit. -/
theorem openInv_iff {s : State} :
    openInv s ↔ countersInv s ∧ s.inCnt.toNat ≤ 7 ∧ s.slabPos + s.width ≤ s.params.slabSize ∧
      ∀ i : Fin 8, i.val < s.inCnt.toNat → (s.inReg[i]).toNat < 2 ^ s.width := by
  constructor
  · rintro ⟨session, err, cnt, room, total, tail, out, fit⟩
    exact ⟨⟨session, err, by omega, total, tail, out⟩, cnt, room, fit⟩
  · rintro ⟨⟨session, err, -, total, tail, out⟩, cnt, room, fit⟩
    exact ⟨session, err, cnt, room, total, tail, out, fit⟩

/-- The invariant of the phase reads of the slab store only which slabs have been zero-filled. -/
theorem phaseInv_of_zeroed {s : State} {m : Memory} (h : m.zeroed = s.mem.zeroed) :
    phaseInv { s with mem := m } = phaseInv s := by
  simp only [phaseInv, openInv, finalInv, faultInv, sessionInv, h]
  rfl

/-! ## The slab store -/

theorem StoreInv.writeBytes {p : Params} {m : Memory} (h : StoreInv p m) {a : Nat} {bs : List Byte}
    (ha : a + bs.length ≤ p.storeSize) : StoreInv p (m.writeBytes p.slabSize a bs) := by
  obtain ⟨legal, canonical, within⟩ := h
  exact ⟨legal, Memory.writeBytes_wf canonical a bs, Memory.writeBytes_within within ha⟩

theorem StoreInv.zeroSlab {p : Params} {m : Memory} (h : StoreInv p m) {k : Nat} (hk : k < p.maxSlabs) :
    StoreInv p (m.zeroSlab p.slabSize k) := by
  obtain ⟨legal, canonical, within⟩ := h
  exact ⟨legal, Memory.zeroSlab_wf canonical k, Memory.zeroSlab_within within hk⟩

theorem StoreInv.bounds {p : Params} {m : Memory} (h : StoreInv p m) :
    32 ≤ p.slabSize ∧ 1 ≤ p.maxSlabs ∧ p.slabSize * p.maxSlabs < 2 ^ 60 :=
  p.legal_iff.1 h.1

/-! ## The shared operations -/

/-- The group-pack step of a full register keeps the counters' invariant and empties the register (R153). -/
theorem packGroup_countersInv {s u : State} (store : StoreInv s.params s.mem) (inv : countersInv s)
    (h : packGroup 8 s = .ok u) :
    StoreInv u.params u.mem ∧ countersInv u ∧ u.inCnt = 0 ∧ u.phase = s.phase := by
  obtain ⟨pack, engine, -, window, address, rfl⟩ := packGroup_eq_ok h
  obtain ⟨⟨w1, w32, aligned, slab, zeroed⟩, err, inside, total, tail, out⟩ := inv
  obtain ⟨-, -, bound⟩ := store.bounds
  have count := totalValues_add total (groups_le_storeBytes slab inside) bound (c := 8) le_rfl
  have aligned' : (s.slabPos + s.width) % s.width = 0 := by rwa [Nat.add_mod_right]
  refine ⟨store.writeBytes (by rwa [engineOf_length engine]), ⟨⟨w1, w32, aligned', slab, by simpa using zeroed⟩, err,
    window, ?_, tail, out⟩, rfl, rfl⟩
  change (s.totalValues + BitVec.ofNat 64 8).toNat =
    8 * (s.frozenCnt * s.params.gps s.width + (s.slabPos + s.width) / s.width)
  rw [count, Nat.add_div_right _ w1]
  ring

/-- A full slab with a free one behind it: the rotation leaves an empty slab with room for a group (R142). -/
theorem rotate_openInv {s : State} (store : StoreInv s.params s.mem) (inv : countersInv s) (empty : s.inCnt = 0)
    (full : s.params.slabSize < s.slabPos + s.width) (free : s.frozenCnt + 1 < s.params.maxSlabs) :
    openInv { s with frozenCnt := s.frozenCnt + 1, mem := s.mem.zeroSlab s.params.slabSize (s.frozenCnt + 1),
                     slabPos := 0 } := by
  obtain ⟨⟨w1, w32, aligned, slab, zeroed⟩, err, inside, total, tail, out⟩ := inv
  obtain ⟨large, -, -⟩ := store.bounds
  obtain ⟨lastGroup, -⟩ := Params.fill_eq_of_full aligned inside full
  refine ⟨⟨w1, w32, Nat.zero_mod _, free, ?_⟩, err, by simp [empty], ?_, ?_, tail, out, by simp [empty]⟩
  · intro k hk
    rw [State.mem_mk, Memory.mem_zeroSlab_zeroed]
    rcases Nat.lt_succ_iff_lt_or_eq.1 hk with hk | hk
    · exact .inr (zeroed k hk)
    · exact .inl hk
  · change 0 + s.width ≤ s.params.slabSize
    omega
  · change s.totalValues.toNat = 8 * ((s.frozenCnt + 1) * s.params.gps s.width + 0 / s.width)
    rw [total, lastGroup, Nat.zero_div]
    ring

/-- A full last slab: the trap leaves the store full of groups (R175). -/
theorem trap_faultInv {s : State} (inv : countersInv s) (empty : s.inCnt = 0)
    (full : s.params.slabSize < s.slabPos + s.width) (last : s.frozenCnt + 1 = s.params.maxSlabs) :
    faultInv { s with phase := .faulted, err := .noMem } := by
  obtain ⟨session, err, inside, total, tail, out⟩ := inv
  have ⟨_, _, aligned, _, _⟩ := session
  obtain ⟨lastGroup, position⟩ := Params.fill_eq_of_full aligned inside full
  refine ⟨session, rfl, empty, position, last, ?_, tail, out⟩
  change s.totalValues.toNat = 8 * (s.params.maxSlabs * s.params.gps s.width)
  rw [total, lastGroup, ← last]
  ring

/-! ## The commands -/

/-- The six bits NEW stores are the width (R151). -/
theorem widthLegal_iff (w : BitVec 32) : widthLegal w = true ↔ 1 ≤ w.toNat ∧ w.toNat ≤ 32 := by
  rw [widthLegal, Bool.and_eq_true, decide_eq_true_eq, decide_eq_true_eq]
  rfl

theorem widthBits_eq (w : BitVec 32) : widthBits w = BitVec.ofNat 6 w.toNat := by
  apply BitVec.eq_of_toNat_eq
  simp [widthBits, BitVec.extractLsb]

theorem widthBits_toNat {w : BitVec 32} (h : w.toNat ≤ 32) : (widthBits w).toNat = w.toNat := by
  rw [widthBits_eq, BitVec.toNat_ofNat]
  omega

theorem execNew_keeps_restInv {s t : State} {w : BitVec 32} (inv : restInv s) (h : execNew w s = .next t) :
    restInv t := by
  obtain ⟨store, -⟩ := restInv_iff.1 inv
  obtain ⟨large, slabs, -⟩ := store.bounds
  obtain ⟨width, -, rfl⟩ := execNew_eq_next h
  obtain ⟨w1, w32⟩ := (widthLegal_iff w).1 width
  have hw := widthBits_toNat w32
  refine restInv_of_opened (store.zeroSlab slabs) rfl
    ⟨⟨by simpa [hw], by simpa [hw], Nat.zero_mod _, slabs, ?_⟩, rfl, by simp, ?_, by simp, rfl, rfl, by simp⟩
  · intro k hk
    rw [State.mem_mk, Memory.mem_zeroSlab_zeroed]
    exact .inl (by simpa using hk)
  · change 0 + (widthBits w).toNat ≤ s.params.slabSize
    omega

/-- The slot WRITE fills keeps the waiting values within the width (R152). -/
theorem set_slot_fits {v : Slots} {x : BitVec 32} {c W : Nat} (hc : c < 8) (hx : x.toNat < 2 ^ W)
    (fit : ∀ i : Fin 8, i.val < c → (v[i]).toNat < 2 ^ W) (i : Fin 8) (hi : i.val < c + 1) :
    ((v.set c x hc)[i]).toNat < 2 ^ W := by
  rw [Fin.getElem_fin, Vector.getElem_set]
  split
  next => exact hx
  next hne => exact fit i (by omega)

theorem inCnt_succ {c : BitVec 4} (h : c.toNat < 8) : (c + 1).toNat = c.toNat + 1 := by
  rw [BitVec.toNat_add]
  exact Nat.mod_eq_of_lt (Nat.lt_of_lt_of_le (Nat.succ_lt_succ h) (by decide))

theorem execWrite_keeps_restInv {s t : State} {v : BitVec 32} (inv : restInv s) (h : execWrite v s = .next t) :
    restInv t := by
  obtain ⟨store, inPhase⟩ := restInv_iff.1 inv
  obtain ⟨opened, fits, hc, ⟨notLast, rfl⟩ | ⟨-, u, packed, rest⟩⟩ := execWrite_eq_next h
  · obtain ⟨counters, -, room, fit⟩ := openInv_iff.1 ((phaseInv_of_opened opened).1 inPhase)
    refine restInv_of_opened store opened (openInv_iff.2 ⟨counters, ?_, room, ?_⟩)
    · rw [State.inCnt_mk, inCnt_succ hc]
      omega
    · rw [State.inCnt_mk, inCnt_succ hc]
      exact set_slot_fits hc fits fit
  · obtain ⟨counters, -, -, -⟩ := openInv_iff.1 ((phaseInv_of_opened opened).1 inPhase)
    obtain ⟨store', counters', empty, phase⟩ := packGroup_countersInv (by exact store) (by exact counters) packed
    have opened' : u.phase = .opened := phase.trans opened
    rcases rest with ⟨room, rfl⟩ | ⟨full, notLast, -, rfl⟩ | ⟨full, last, rfl⟩
    · exact restInv_of_opened store' opened' (openInv_iff.2 ⟨counters', by simp [empty], room, by simp [empty]⟩)
    · have free : u.frozenCnt + 1 < u.params.maxSlabs := by
        obtain ⟨⟨_, _, _, slab, _⟩, _⟩ := counters'
        omega
      exact restInv_of_opened (store'.zeroSlab free) opened' (rotate_openInv store' counters' empty full free)
    · exact restInv_of_faulted store' rfl (trap_faultInv counters' empty full last)

theorem execFinish_keeps_restInv {s t : State} (inv : restInv s) (h : execFinish s = .next t) : restInv t := by
  obtain ⟨store, inPhase⟩ := restInv_iff.1 inv
  obtain ⟨opened, u, flushed, rfl⟩ := execFinish_eq_next h
  obtain ⟨⟨⟨w1, w32, aligned, slab, zeroed⟩, err, inside, total, -, -⟩, cnt, -, -⟩ :=
    openInv_iff.1 ((phaseInv_of_opened opened).1 inPhase)
  have bytes := groups_mul_width (p := s.params) (f := s.frozenCnt) aligned
  rcases flush_eq_ok flushed with ⟨noneWaits, rfl⟩ | ⟨-, pack, engine, -, window, address, rfl⟩
  · have size : ceil8 (u.totalValues.toNat * u.width) = u.frozenCnt * u.params.fill u.width + u.slabPos := by
      rw [total, Nat.mul_assoc, bytes]
      exact ceil8_add _ 0
    have tail : u.slabPos + ceil8 (u.inCnt.toNat * u.width) = u.slabPos := by simp [noneWaits, ceil8]
    rw [tail]
    exact restInv_of_finalized store rfl ⟨⟨w1, w32, aligned, slab, zeroed⟩, err, BitVec.eq_of_toNat_eq noneWaits,
      Params.le_fill aligned inside, Nat.le_refl _, Nat.zero_le _, size.symm⟩
  · obtain ⟨-, -, bound⟩ := store.bounds
    have count := totalValues_add total (groups_le_storeBytes slab inside) bound (c := s.inCnt.toNat) (by omega)
    have aligned' : (s.slabPos + s.width) % s.width = 0 := by rwa [Nat.add_mod_right]
    have size : ceil8 ((8 * (s.frozenCnt * s.params.gps s.width + s.slabPos / s.width) + s.inCnt.toNat) * s.width) =
        s.frozenCnt * s.params.fill s.width + (s.slabPos + ceil8 (s.inCnt.toNat * s.width)) := by
      rw [Nat.add_mul, Nat.mul_assoc, bytes, ceil8_add, Nat.add_assoc]
    refine restInv_of_finalized (store.writeBytes (by rwa [engineOf_length engine])) rfl
      ⟨⟨w1, w32, aligned', slab, by simpa using zeroed⟩, err, rfl, Params.le_fill aligned' window, ?_, Nat.zero_le _,
        ?_⟩
    · exact Nat.add_le_add_left (ceil8_mul_le (by omega)) _
    · change _ = ceil8 ((s.totalValues + BitVec.ofNat 64 s.inCnt.toNat).toNat * s.width)
      rw [count, size]
      rfl

theorem execDrain_keeps_restInv {s t : State} (inv : restInv s) (h : execDrain s = .next t) : restInv t := by
  obtain ⟨store, inPhase⟩ := restInv_iff.1 inv
  obtain ⟨finalized, left, b, -, rfl⟩ := execDrain_eq_next h
  obtain ⟨session, err, empty, position, tail, -, size⟩ := (phaseInv_of_finalized finalized).1 inPhase
  have delivered : (s.outIdx + 1).toNat ≤ outLen s := by
    rw [BitVec.toNat_add]
    exact (Nat.mod_le _ _).trans left
  exact restInv_of_finalized store finalized ⟨session, err, empty, position, tail, delivered, size⟩

/-- An engine operation writes bytes of the store, and no invariant speaks of their values (R94, R96). -/
theorem engineOp_keeps_restInv {s t : State} {W : Nat} {pack : Slots → List Byte} (inv : restInv s)
    (h : engineOp W pack s = .next t) : restInv t := by
  obtain ⟨store, inPhase⟩ := restInv_iff.1 inv
  rcases engineOp_eq_next h with ⟨-, rfl⟩ | ⟨-, -, -, address, rfl⟩
  · exact inv
  · exact restInv_iff.2
      ⟨store.writeBytes address, (phaseInv_of_zeroed (Memory.writeBytes_zeroed _ _ _ _)).trans inPhase⟩

/-! ## The step -/

/-- A response, a word taken and a grant consumed are outside the invariant. -/
theorem restInv_ports {s : State} (g : Bool) (cs : List CmdWord) (rs : List Response) (inv : restInv s) :
    restInv { s with grant := g, cmds := cs, responses := rs } := inv

/-- Every instruction keeps the invariant of the machine at rest. -/
theorem exec_keeps_restInv {i : Instr} {s t : State} (inv : restInv s) (h : exec i s = .next t) : restInv t := by
  cases width : i.engineWidth with
  | some W =>
    obtain ⟨pack, -, runs⟩ := exec_of_engineWidth width
    exact engineOp_keeps_restInv inv ((runs s).symm.trans h)
  | none =>
    cases i with
    | new w => exact execNew_keeps_restInv inv h
    | write v => exact execWrite_keeps_restInv inv h
    | finish => exact execFinish_keeps_restInv inv h
    | drain => exact execDrain_keeps_restInv inv h
    | rsize =>
      obtain ⟨-, rfl⟩ := execRsize_eq_next h
      exact restInv_ports s.grant s.cmds _ inv
    | asize =>
      obtain ⟨-, rfl⟩ := execAsize_eq_next h
      exact restInv_ports s.grant s.cmds _ inv
    | _ => cases width

/-- Settles O47: a step waits, or takes its word or its grant and runs an instruction. -/
theorem stepKeepsInvariant : Obligations.StepKeepsInvariant := by
  intro s t inv h
  obtain ⟨-, ⟨-, -, rfl⟩ | ⟨-, c, cs, i, -, -, run⟩ | ⟨-, i, -, run⟩⟩ := step_eq_next h
  · exact inv
  · exact exec_keeps_restInv (restInv_ports s.grant cs s.responses inv) run
  · exact exec_keeps_restInv (restInv_ports false s.cmds s.responses inv) run

end Sys2Proof.Machine
end

section
/-! SUPPORT. The two ways a session state comes about without a session before it: reset (spec/10_state.md R36) and NEW
(spec/46_encoder_commands.md R151). -/

namespace Sys2Proof.Machine

/-! ## Reset -/

theorem isStart_resetWith {p : Params} (legal : p.legal = true) : isStart (State.resetWith p) :=
  have store : StoreInv p (State.resetWith p).mem :=
    ⟨legal, Memory.empty_wf _, by simp [Memory.within, State.resetWith]⟩
  ⟨restInv_iff.2 ⟨store, (phaseInv_of_fresh rfl).2 rfl⟩, rfl, rfl⟩

/-- Settles O46: an empty slab store is in canonical form, and phase Fresh asks only that there is no trap. -/
theorem resetSatisfiesInvariant : Obligations.ResetSatisfiesInvariant :=
  ⟨isStart_resetWith (by decide), rfl, rfl, fun _ legal => isStart_resetWith legal⟩

/-! ## NEW -/

/-- NEW with a legal width completes: legal parameters give the store a slab 0. -/
theorem execNew_of {s : State} {w : BitVec 32} (legal : s.params.legal = true) (width : widthLegal w = true) :
    execNew w s =
      .next { s with phase := .opened, err := .none, bw := widthBits w, inCnt := 0, slabPos := 0, frozenCnt := 0,
                     totalValues := 0, tailLen := 0, outIdx := 0, mem := s.mem.zeroSlab s.params.slabSize 0,
                     responses := s.responses ++ [.done] } := by
  obtain ⟨-, slabs, -⟩ := s.params.legal_iff.1 legal
  have firstSlab : 0 * s.params.slabSize + s.params.slabSize ≤ s.params.storeSize := by
    rw [← Nat.succ_mul]
    exact Nat.mul_le_mul_right _ slabs
  rw [execNew, if_neg (by simp [width]), initSlab_of (by exact firstSlab)]
  rfl

theorem execNew_of_width_illegal {s : State} {w : BitVec 32} (width : widthLegal w = false) :
    execNew w s = .fault .pvWidth :=
  if_pos width

/-- Settles O27: by the equations of NEW, and what a zero-filled slab 0 reads as. -/
theorem newOpensSession : Obligations.NewOpensSession := by
  intro s w legal
  constructor
  · intro width
    obtain ⟨large, -, -⟩ := s.params.legal_iff.1 legal
    refine ⟨_, execNew_of legal ((widthLegal_iff w).2 width), by rw [widthBits_eq], ?_, ?_⟩
    · intro a ha
      rw [readByte_mk, Memory.read_zeroSlab, if_pos (Nat.div_eq_of_lt ha)]
    · intro a ha
      have other : a / s.params.slabSize ≠ 0 := Nat.div_ne_zero_iff.2 ⟨by omega, ha⟩
      rw [readByte_mk, Memory.read_zeroSlab, if_neg other]
      rfl
  · intro width
    exact execNew_of_width_illegal (Bool.eq_false_iff.2 fun h => by
      have := (widthLegal_iff w).1 h
      omega)

end Sys2Proof.Machine
end

section
/-! SUPPORT. Nothing the host observes depends on what reset leaves unspecified (spec/10_state.md R36, R38;
spec/70_reset_and_hazards.md R190). Two runs are followed side by side. Until a NEW completes they share the ports and
the phase Fresh; from then on they are one session (`SameSession`): every register is equal, the slots below `in_cnt`
are, and so are the slabs up to the current one. What lies beyond may differ for ever, and no command reads it. -/

namespace Sys2Proof.Machine

/-! ## Stores that agree on the slabs in use -/

/-- The stores hold the same bytes in the slabs `0` to `n`. -/
def SlabsAgree (S n : Nat) (m m' : Memory) : Prop := ∀ a, a / S ≤ n → m.read S a = m'.read S a

theorem SlabsAgree.writeBytes {S n : Nat} {m m' : Memory} (h : SlabsAgree S n m m') (a : Nat) (bs : List Byte) :
    SlabsAgree S n (m.writeBytes S a bs) (m'.writeBytes S a bs) := by
  intro x hx
  rw [Memory.read_writeBytes, Memory.read_writeBytes, h x hx]

/-- Initialising the next slab makes it agree as well, whatever it held (R140). -/
theorem SlabsAgree.zeroSlab_succ {S n : Nat} {m m' : Memory} (h : SlabsAgree S n m m') :
    SlabsAgree S (n + 1) (m.zeroSlab S (n + 1)) (m'.zeroSlab S (n + 1)) := by
  intro x hx
  rw [Memory.read_zeroSlab, Memory.read_zeroSlab]
  split
  next => rfl
  next other => exact h x (by omega)

theorem slabsAgree_zeroSlab_zero (S : Nat) (m m' : Memory) : SlabsAgree S 0 (m.zeroSlab S 0) (m'.zeroSlab S 0) := by
  intro x hx
  rw [Memory.read_zeroSlab, Memory.read_zeroSlab, if_pos (Nat.le_zero.1 hx), if_pos (Nat.le_zero.1 hx)]

/-! ## States that agree -/

/-- One state but for the contents of slabs not yet in use; no lone engine operation is asked for. -/
def SameGroup (s t : State) : Prop :=
  s.grant = false ∧ ∃ m, t = { s with mem := m } ∧ SlabsAgree s.params.slabSize s.frozenCnt s.mem m

/-- One session: the same state but for slots that hold no waiting value and slabs not yet in use. -/
def SameSession (s t : State) : Prop :=
  s.grant = false ∧ ∃ v m, t = { s with inReg := v, mem := m } ∧
    (∀ i : Fin 8, i.val < s.inCnt.toNat → s.inReg[i] = v[i]) ∧ SlabsAgree s.params.slabSize s.frozenCnt s.mem m

theorem SameGroup.sameSession {s t : State} (h : SameGroup s t) : SameSession s t := by
  obtain ⟨idle, m, rfl, slabs⟩ := h
  exact ⟨idle, s.inReg, m, rfl, fun _ _ => rfl, slabs⟩

/-- A full input register holds eight waiting values, so one session has one group in it. -/
theorem SameSession.sameGroup {s t : State} (h : SameSession s t) (full : s.inCnt = 8) : SameGroup s t := by
  obtain ⟨idle, v, m, rfl, slots, slabs⟩ := h
  have same : s.inReg = v := Vector.ext fun i hi => slots ⟨i, hi⟩ (by simpa [full] using hi)
  subst same
  exact ⟨idle, m, rfl, slabs⟩

/-- The same parameters and the same command and response ports, with no lone engine operation asked for (R38, R39). -/
def SamePorts (s t : State) : Prop :=
  s.params = t.params ∧ s.cmds = t.cmds ∧ s.responses = t.responses ∧ s.grant = false ∧ t.grant = false

/-- What the host cannot tell apart: two machines without a session since reset, or one session. -/
def LookAlike (s t : State) : Prop :=
  (SamePorts s t ∧ s.phase = .fresh ∧ t.phase = .fresh ∧ s.err = .none ∧ t.err = .none) ∨ SameSession s t

theorem SameSession.samePorts {s t : State} (h : SameSession s t) : SamePorts s t := by
  obtain ⟨idle, v, m, rfl, -, -⟩ := h
  exact ⟨rfl, rfl, rfl, idle, idle⟩

theorem LookAlike.samePorts {s t : State} (h : LookAlike s t) : SamePorts s t :=
  h.elim And.left SameSession.samePorts

/-- Taking the word presented keeps the machines alike. -/
theorem LookAlike.take {s t : State} (h : LookAlike s t) (cs : List CmdWord) :
    LookAlike { s with cmds := cs } { t with cmds := cs } := by
  obtain ⟨⟨params, -, responses, idle⟩, fresh⟩ | ⟨idle, v, m, rfl, agree⟩ := h
  · exact .inl ⟨⟨params, rfl, responses, idle⟩, fresh⟩
  · exact .inr ⟨idle, v, m, rfl, agree⟩

/-! ## Outcomes that agree -/

/-- Two micro-operations end alike, in states related by `R`. -/
def AlikeMicros (R : State → State → Prop) (m m' : Micro) : Prop :=
  (∃ s t, m = .ok s ∧ m' = .ok t ∧ R s t) ∨ (∃ s t, m = .trap s ∧ m' = .trap t ∧ R s t) ∨
    ∃ f, m = .violate f ∧ m' = .violate f

/-- Two steps end alike: in next states related by `R`, or with the same fault. -/
def AlikeOutcomes (R : State → State → Prop) (o o' : Host.Outcome State Fault Refusal) : Prop :=
  (∃ s t, o = .next s ∧ o' = .next t ∧ R s t) ∨ ∃ f, o = .fault f ∧ o' = .fault f

section
variable {R R' : State → State → Prop}

theorem AlikeMicros.ok {s t : State} (h : R s t) : AlikeMicros R (.ok s) (.ok t) := .inl ⟨s, t, rfl, rfl, h⟩

theorem AlikeMicros.trap {s t : State} (h : R s t) : AlikeMicros R (.trap s) (.trap t) :=
  .inr (.inl ⟨s, t, rfl, rfl, h⟩)

theorem AlikeMicros.violate (f : Fault) : AlikeMicros R (.violate f) (.violate f) := .inr (.inr ⟨f, rfl, rfl⟩)

theorem AlikeOutcomes.next {s t : State} (h : R s t) : AlikeOutcomes R (.next s) (.next t) :=
  .inl ⟨s, t, rfl, rfl, h⟩

theorem AlikeOutcomes.fault (f : Fault) : AlikeOutcomes R (.fault f) (.fault f) := .inr ⟨f, rfl, rfl⟩

theorem AlikeMicros.mono {m m' : Micro} (h : AlikeMicros R m m') (weaker : ∀ s t, R s t → R' s t) :
    AlikeMicros R' m m' := by
  obtain ⟨s, t, rfl, rfl, h⟩ | ⟨s, t, rfl, rfl, h⟩ | ⟨f, rfl, rfl⟩ := h
  · exact .ok (weaker s t h)
  · exact .trap (weaker s t h)
  · exact .violate f

theorem AlikeOutcomes.mono {o o' : Host.Outcome State Fault Refusal} (h : AlikeOutcomes R o o')
    (weaker : ∀ s t, R s t → R' s t) : AlikeOutcomes R' o o' := by
  obtain ⟨s, t, rfl, rfl, h⟩ | ⟨f, rfl, rfl⟩ := h
  · exact .next (weaker s t h)
  · exact .fault f

/-- Two branches on conditions that hold alike. -/
theorem AlikeMicros.ite {p p' : Prop} [Decidable p] [Decidable p'] {m n m' n' : Micro} (same : p ↔ p')
    (hm : p → AlikeMicros R m m') (hn : ¬ p → AlikeMicros R n n') :
    AlikeMicros R (if p then m else n) (if p' then m' else n') := by
  by_cases h : p
  · rw [if_pos h, if_pos (same.1 h)]
    exact hm h
  · rw [if_neg h, if_neg fun h' => h (same.2 h')]
    exact hn h

theorem AlikeOutcomes.ite {p p' : Prop} [Decidable p] [Decidable p'] {o q o' q' : Host.Outcome State Fault Refusal}
    (same : p ↔ p') (ho : p → AlikeOutcomes R o o') (hq : ¬ p → AlikeOutcomes R q q') :
    AlikeOutcomes R (if p then o else q) (if p' then o' else q') := by
  by_cases h : p
  · rw [if_pos h, if_pos (same.1 h)]
    exact ho h
  · rw [if_neg h, if_neg fun h' => h (same.2 h')]
    exact hq h

theorem AlikeMicros.bind {m m' : Micro} {k k' : State → Micro} (h : AlikeMicros R m m')
    (hk : ∀ s t, R s t → AlikeMicros R (k s) (k' t)) : AlikeMicros R (m.bind k) (m'.bind k') := by
  obtain ⟨s, t, rfl, rfl, h⟩ | ⟨s, t, rfl, rfl, h⟩ | ⟨f, rfl, rfl⟩ := h
  · exact hk s t h
  · exact .trap h
  · exact .violate f

end

/-- Commands whose micro-operations end alike, with the same response, leave one session. -/
theorem AlikeMicros.respond {m m' : Micro} {r r' : State → Response} (h : AlikeMicros SameSession m m')
    (hr : ∀ s t, SameSession s t → r s = r' t) : AlikeOutcomes SameSession (m.respond r) (m'.respond r') := by
  obtain ⟨s, t, rfl, rfl, h⟩ | ⟨s, t, rfl, rfl, h⟩ | ⟨f, rfl, rfl⟩ := h
  · rw [Micro.respond_ok, Micro.respond_ok, ← hr s t h]
    obtain ⟨idle, v, m, rfl, agree⟩ := h
    exact .next ⟨idle, v, m, rfl, agree⟩
  · exact .next h
  · exact .fault f

/-! ## The shared operations -/

theorem SameGroup.memWrite_alike {s t : State} (h : SameGroup s t) (a : Nat) (bs : List Byte) :
    AlikeMicros SameGroup (memWrite a bs s) (memWrite a bs t) := by
  obtain ⟨idle, m, rfl, slabs⟩ := h
  exact .ite Iff.rfl (fun _ => .ok ⟨idle, _, rfl, slabs.writeBytes a bs⟩) fun _ => .violate _

theorem SameGroup.engineWrite_alike {s t : State} (h : SameGroup s t) (W : Nat) (pack : Slots → List Byte) :
    AlikeMicros SameGroup (engineWrite W pack s) (engineWrite W pack t) := by
  have write := h.memWrite_alike (groupAddr s) (pack s.inReg)
  obtain ⟨-, m, rfl, -⟩ := h
  exact .ite Iff.rfl (fun _ => .violate _) fun _ => .ite Iff.rfl (fun _ => .violate _) fun _ => write

theorem SameGroup.arbiterWrite_alike {s t : State} (h : SameGroup s t) :
    AlikeMicros SameGroup (arbiterWrite s) (arbiterWrite t) := by
  have sameWidth : t.width = s.width := by
    obtain ⟨-, m, rfl, -⟩ := h
    rfl
  unfold arbiterWrite
  rw [sameWidth]
  cases engineOf s.width with
  | some pack => exact h.engineWrite_alike s.width pack
  | none => exact .violate _

theorem SameGroup.packGroup_alike {s t : State} (h : SameGroup s t) (c : Nat) :
    AlikeMicros SameGroup (packGroup c s) (packGroup c t) := by
  refine h.arbiterWrite_alike.bind fun u u' hu => ?_
  obtain ⟨idle, m, rfl, slabs⟩ := hu
  exact .ok ⟨idle, m, rfl, slabs⟩

/-- The next slab is zero-filled before it is used, so its old content is gone (R142). -/
theorem SameGroup.rotate_alike {s t : State} (h : SameGroup s t) : AlikeMicros SameGroup (rotate s) (rotate t) := by
  obtain ⟨idle, m, rfl, slabs⟩ := h
  exact .ite Iff.rfl (fun _ => .trap ⟨idle, m, rfl, slabs⟩) fun _ =>
    .ite Iff.rfl (fun _ => .ok ⟨idle, _, rfl, slabs.zeroSlab_succ⟩) fun _ => .violate _

theorem SameGroup.closeGroup_alike {s t : State} (h : SameGroup s t) :
    AlikeMicros SameGroup (closeGroup s) (closeGroup t) := by
  refine (h.packGroup_alike 8).bind fun u u' hu => ?_
  have rotated := hu.rotate_alike
  obtain ⟨idle, m, rfl, slabs⟩ := hu
  exact .ite Iff.rfl (fun _ => rotated) fun _ => .ok ⟨idle, m, rfl, slabs⟩

/-- The zero fill overwrites every slot that holds no waiting value (R154). -/
theorem zeroFrom_congr {c : Nat} {v v' : Slots} (h : ∀ i : Fin 8, i.val < c → v[i] = v'[i]) :
    zeroFrom c v = zeroFrom c v' := by
  apply Vector.ext
  intro i hi
  rw [zeroFrom_getElem v hi, zeroFrom_getElem v' hi]
  split
  next => rfl
  next waiting => exact h ⟨i, hi⟩ (by simpa using waiting)

theorem SameSession.flush_alike {s t : State} (h : SameSession s t) :
    AlikeMicros SameSession (flush s.inCnt.toNat s) (flush s.inCnt.toNat t) := by
  have waiting := h
  obtain ⟨idle, v, m, rfl, slots, slabs⟩ := h
  refine .ite Iff.rfl (fun _ => ?_) fun _ => .ok waiting
  have same : SameGroup { s with inReg := zeroFrom s.inCnt.toNat s.inReg }
      { s with inReg := zeroFrom s.inCnt.toNat v, mem := m } :=
    ⟨idle, m, by rw [zeroFrom_congr slots], slabs⟩
  exact (same.packGroup_alike s.inCnt.toNat).mono fun _ _ => SameGroup.sameSession

/-! ## The commands -/

/-- NEW gives a value to everything a session reads (R37): from then on there is one session. -/
theorem SamePorts.execNew_alike {s t : State} (ports : SamePorts s t) (legal : s.params.legal = true) (w : BitVec 32) :
    AlikeOutcomes SameSession (execNew w s) (execNew w t) := by
  obtain ⟨params, cmds, responses, idle, idle'⟩ := ports
  cases width : widthLegal w with
  | false =>
    rw [execNew_of_width_illegal width, execNew_of_width_illegal width]
    exact .fault _
  | true =>
    rw [execNew_of legal width, execNew_of (params ▸ legal) width]
    refine .next ⟨idle, t.inReg, t.mem.zeroSlab s.params.slabSize 0, ?_, by simp, slabsAgree_zeroSlab_zero _ _ _⟩
    rw [params, cmds, responses, idle, idle']

theorem writeSlot_out_of_range {x : BitVec 32} {s : State} (h : ¬ s.inCnt.toNat < 8) :
    writeSlot x s = .violate .slotRange :=
  dif_neg h

/-- The slot WRITE fills holds the same value in both machines (R152). -/
theorem set_slot_congr {c : Nat} {v v' : Slots} (hc : c < 8) (x : BitVec 32)
    (h : ∀ i : Fin 8, i.val < c → v[i] = v'[i]) (i : Fin 8) (hi : i.val < c + 1) :
    (v.set c x hc)[i] = (v'.set c x hc)[i] := by
  rw [Fin.getElem_fin, Fin.getElem_fin, Vector.getElem_set, Vector.getElem_set]
  split
  next => rfl
  next other => exact h i (by omega)

theorem SameSession.execWrite_alike {s t : State} (h : SameSession s t) (x : BitVec 32) :
    AlikeOutcomes SameSession (execWrite x s) (execWrite x t) := by
  obtain ⟨idle, v, m, rfl, slots, slabs⟩ := h
  refine .ite Iff.rfl (fun _ => .fault _) fun _ => .ite Iff.rfl (fun _ => .fault _) fun _ => ?_
  refine AlikeMicros.respond ?_ fun _ _ _ => rfl
  by_cases hc : s.inCnt.toNat < 8
  · have written : SameSession { s with inReg := s.inReg.set s.inCnt.toNat x hc, inCnt := s.inCnt + 1 }
        { s with inReg := v.set s.inCnt.toNat x hc, inCnt := s.inCnt + 1, mem := m } := by
      refine ⟨idle, _, m, rfl, ?_, slabs⟩
      rw [State.inCnt_mk, inCnt_succ hc]
      exact set_slot_congr hc x slots
    rw [writeSlot_of hc, writeSlot_of (by exact hc)]
    exact .ite Iff.rfl (fun full => (written.sameGroup (by simpa using full)).closeGroup_alike.mono
      fun _ _ => SameGroup.sameSession) fun _ => .ok written
  · rw [writeSlot_out_of_range hc, writeSlot_out_of_range (by exact hc)]
    exact .violate _

theorem SameSession.execFinish_alike {s t : State} (h : SameSession s t) :
    AlikeOutcomes SameSession (execFinish s) (execFinish t) := by
  have flushed := h.flush_alike
  obtain ⟨idle, v, m, rfl, -, -⟩ := h
  refine .ite Iff.rfl (fun _ => .fault _) fun _ => AlikeMicros.respond (flushed.bind fun u u' hu => ?_) ?_
  · obtain ⟨idle, v, m, rfl, agree⟩ := hu
    exact .ok ⟨idle, v, m, rfl, agree⟩
  · rintro u u' ⟨-, v, m, rfl, -⟩
    rfl

/-- RSIZE answers from the counters alone (R157). -/
theorem SameSession.execRsize_alike {s t : State} (h : SameSession s t) :
    AlikeOutcomes SameSession (execRsize s) (execRsize t) := by
  obtain ⟨idle, v, m, rfl, agree⟩ := h
  exact .ite Iff.rfl (fun _ => .fault _) fun _ => .next ⟨idle, v, m, rfl, agree⟩

/-- ASIZE answers from the counters alone (R158). -/
theorem SameSession.execAsize_alike {s t : State} (h : SameSession s t) :
    AlikeOutcomes SameSession (execAsize s) (execAsize t) := by
  obtain ⟨idle, v, m, rfl, agree⟩ := h
  exact .ite Iff.rfl (fun _ => .fault _) fun _ => .next ⟨idle, v, m, rfl, agree⟩

/-! ## The byte sequence -/

theorem memReadByte_congr {s t : State} {a : Nat} (params : s.params = t.params) (byte : readByte s a = readByte t a) :
    memReadByte s a = memReadByte t a := by
  rw [memReadByte, memReadByte, params, byte]

/-- Every byte of the byte sequence lies in a slab in use (R155). -/
theorem outAddr_in_use {s : State} (store : StoreInv s.params s.mem) (inv : finalInv s) {i : Nat} (hi : i < outLen s) :
    outAddr s i / s.params.slabSize ≤ s.frozenCnt := by
  obtain ⟨⟨w1, w32, -⟩, -, -, position, tail, -⟩ := inv
  obtain ⟨large, -, -⟩ := store.bounds
  have fill := s.params.fill_le_slabSize s.width
  have fillPos : 0 < fillOf s := Nat.mul_pos (Nat.div_pos (by omega) w1) w1
  have inSlab : ∀ {k o : Nat}, k ≤ s.frozenCnt → o < s.params.slabSize →
      slabAddr s k o / s.params.slabSize ≤ s.frozenCnt := by
    intro k o hk ho
    rwa [slabAddr, Nat.mul_comm, Nat.mul_add_div (by omega), Nat.div_eq_of_lt ho]
  unfold outAddr
  split
  next frozen => exact inSlab frozen.le ((Nat.mod_lt _ fillPos).trans_le fill)
  next =>
    refine inSlab le_rfl ?_
    rw [outLen_eq] at hi
    have : s.slabPos ≤ s.params.slabSize := position.trans fill
    omega

/-- One session has one byte sequence. -/
theorem SameSession.readByte_outAddr {s t : State} (h : SameSession s t) (inv : restInv s)
    (final : s.phase = .finalized) {i : Nat} (hi : i < outLen s) :
    readByte s (outAddr s i) = readByte t (outAddr t i) := by
  obtain ⟨store, inPhase⟩ := restInv_iff.1 inv
  obtain ⟨-, v, m, rfl, -, slabs⟩ := h
  exact slabs _ (outAddr_in_use store ((phaseInv_of_finalized final).1 inPhase) hi)

theorem SameSession.outSeq_eq {s t : State} (h : SameSession s t) (inv : restInv s) (final : s.phase = .finalized) :
    outSeq s = outSeq t := by
  have sameLen : outLen t = outLen s := by
    obtain ⟨-, v, m, rfl, -⟩ := h
    rfl
  rw [outSeq, outSeq, sameLen]
  exact List.map_congr_left fun i hi => h.readByte_outAddr inv final (List.mem_range.1 hi)

theorem SameSession.execDrain_alike {s t : State} (h : SameSession s t) (inv : restInv s) :
    AlikeOutcomes SameSession (execDrain s) (execDrain t) := by
  have sameByte := fun final => h.readByte_outAddr (i := s.outIdx.toNat) inv final
  obtain ⟨idle, v, m, rfl, agree⟩ := h
  refine .ite Iff.rfl (fun _ => .fault _) fun final => .ite Iff.rfl (fun _ => .fault _) fun left => ?_
  have same : outByte { s with inReg := v, mem := m } s.outIdx.toNat = outByte s s.outIdx.toNat :=
    memReadByte_congr rfl (sameByte (by simpa using final) (by simpa using left)).symm
  rw [same]
  cases outByte s s.outIdx.toNat with
  | error f => exact .fault f
  | ok b => exact .next ⟨idle, v, m, rfl, agree⟩

/-! ## The step and the run -/

/-- The command port decodes commands only (R71). -/
theorem decodeCommand_engineWidth {c : CmdWord} {i : Instr} (h : decodeCommand c = .ok i) : i.engineWidth = none := by
  rw [← commandWord_fields c, decodeCommand_commandWord] at h
  split_ifs at h <;> cases h <;> rfl

/-- Before a session only NEW is legal (R159). -/
theorem exec_of_fresh {s : State} {i : Instr} (fresh : s.phase = .fresh) (command : i.engineWidth = none)
    (notNew : ∀ w, i ≠ .new w) : exec i s = .fault .pvPhase := by
  have noSession : sessionLive s = false := by simp [sessionLive, fresh]
  cases i with
  | new w => exact absurd rfl (notNew w)
  | write v => exact if_pos (by simp [fresh])
  | finish => exact if_pos (by simp [fresh])
  | drain => exact if_pos (by simp [fresh])
  | rsize => exact if_pos noSession
  | asize => exact if_pos noSession
  | _ => cases command

theorem SameSession.exec_alike {s t : State} (h : SameSession s t) (inv : restInv s) {i : Instr}
    (command : i.engineWidth = none) : AlikeOutcomes SameSession (exec i s) (exec i t) := by
  cases i with
  | new w => exact h.samePorts.execNew_alike inv.1 w
  | write v => exact h.execWrite_alike v
  | finish => exact h.execFinish_alike
  | drain => exact h.execDrain_alike inv
  | rsize => exact h.execRsize_alike
  | asize => exact h.execAsize_alike
  | _ => cases command

theorem LookAlike.exec_alike {s t : State} (h : LookAlike s t) (inv : restInv s) {i : Instr}
    (command : i.engineWidth = none) : AlikeOutcomes LookAlike (exec i s) (exec i t) := by
  rcases h with ⟨ports, fresh, fresh', -⟩ | session
  · by_cases new : ∃ w, i = .new w
    · obtain ⟨w, rfl⟩ := new
      exact (ports.execNew_alike inv.1 w).mono fun _ _ => .inr
    · have notNew := not_exists.1 new
      rw [exec_of_fresh fresh command notNew, exec_of_fresh fresh' command notNew]
      exact .fault _
  · exact (session.exec_alike inv command).mono fun _ _ => .inr

/-- With nothing presented the controller waits (R150). -/
theorem step_of_noCommand {s : State} (legal : s.params.legal = true) (idle : s.grant = false) (empty : s.cmds = []) :
    step s = .next s := by
  simp [step, legal, fetch, idle, fetchCommand, empty]

/-- A word that matches no row is a violation (R76). -/
theorem step_of_reserved {s : State} {c : CmdWord} {cs : List CmdWord} {e : DecodeError} (legal : s.params.legal = true)
    (idle : s.grant = false) (words : s.cmds = c :: cs) (reserved : decodeCommand c = .error e) :
    step s = .fault .pvCmd := by
  simp [step, legal, fetch, idle, fetchCommand, words, reserved]

theorem LookAlike.step_alike {s t : State} (h : LookAlike s t) (inv : restInv s) :
    AlikeOutcomes LookAlike (step s) (step t) := by
  obtain ⟨params, cmds, -, idle, idle'⟩ := h.samePorts
  have legal : t.params.legal = true := params ▸ inv.1
  cases words : s.cmds with
  | nil =>
    rw [step_of_noCommand inv.1 idle words, step_of_noCommand legal idle' (cmds ▸ words)]
    exact .next h
  | cons c cs =>
    cases decoded : decodeCommand c with
    | error e =>
      rw [step_of_reserved inv.1 idle words decoded, step_of_reserved legal idle' (cmds ▸ words) decoded]
      exact .fault _
    | ok i =>
      rw [step_of_command inv.1 idle words decoded, step_of_command legal idle' (cmds ▸ words) decoded]
      exact (h.take cs).exec_alike (restInv_ports s.grant cs s.responses inv) (decodeCommand_engineWidth decoded)

theorem LookAlike.observe_eq {s t : State} (h : LookAlike s t) (inv : restInv s) : observe s = observe t := by
  rcases h with ⟨⟨-, -, responses, -⟩, fresh, fresh', err, err'⟩ | session
  · simp [observe, responses, fresh, fresh', err, err']
  · have output := session.outSeq_eq inv
    obtain ⟨-, v, m, rfl, -⟩ := session
    simp only [observe, Observation.mk.injEq, true_and]
    split
    next final => exact output final
    next => rfl

/-- Machines that look alike are observed alike after any number of steps. -/
theorem LookAlike.observe_run_eq (n : Nat) {s t : State} (h : LookAlike s t) (inv : restInv s) :
    observeOutcome (Sys2Proof.core.run n s) = observeOutcome (Sys2Proof.core.run n t) := by
  induction n generalizing s t with
  | zero => exact congrArg Except.ok (h.observe_eq inv)
  | succ n ih =>
    obtain ⟨s', t', hs, ht, h'⟩ | ⟨f, hs, ht⟩ := h.step_alike inv
    · rw [run_succ_of_next hs, run_succ_of_next ht]
      exact ih h' (stepKeepsInvariant s s' inv hs)
    · rw [run_succ_of_fault hs, run_succ_of_fault ht]

/-- Settles O52: start states look alike, and every step keeps it so. -/
theorem resetContentsAreNeverObserved : Obligations.ResetContentsAreNeverObserved := by
  rintro s t n ⟨inv, fresh, idle⟩ ⟨inv', fresh', idle'⟩ params cmds responses
  refine LookAlike.observe_run_eq n (.inl ⟨⟨params, cmds, responses, idle, idle'⟩, fresh, fresh', ?_, ?_⟩) inv
  · exact (phaseInv_of_fresh fresh).1 (restInv_iff.1 inv).2
  · exact (phaseInv_of_fresh fresh').1 (restInv_iff.1 inv').2

end Sys2Proof.Machine
end

section
/-! SUPPORT. The slab store as its access rules describe it (spec/20_memory.md R50, R51): a store and the load after it,
the canonical form as the only data with its reads, and the packed bytes, which nothing but NEW writes again. -/

namespace Sys2Proof.Machine

/-! ## A store and the load after it (R50) -/

/-- A byte of the store after `MemWrite`: the byte of the list inside its window, the old byte everywhere else. -/
theorem readByte_memWrite {A : Nat} {bs : List Byte} {s t : State} (h : memWrite A bs s = .ok t) (x : Nat) :
    readByte t x = if A ≤ x ∧ x < A + bs.length then bs[x - A]? else readByte s x := by
  obtain ⟨-, rfl⟩ := memWrite_eq_ok h
  exact Memory.read_writeBytes _ _ _ _ _

/-- `MemRead` gives back what `MemWrite` stored. -/
theorem memReadByte_memWrite {A : Nat} {bs : List Byte} {s t : State} (h : memWrite A bs s = .ok t) {k : Nat} {b : Byte}
    (hb : bs[k]? = some b) : memReadByte t (A + k) = .ok b := by
  obtain ⟨inside, ht⟩ := memWrite_eq_ok h
  obtain ⟨hk, -⟩ := List.getElem?_eq_some_iff.1 hb
  refine memReadByte_eq_ok.2 ⟨?_, ?_⟩
  · rw [ht, State.params_mk]
    omega
  · rw [readByte_memWrite h, if_pos ⟨Nat.le_add_right A k, Nat.add_lt_add_left hk A⟩, Nat.add_sub_cancel_left, hb]

theorem memWrite_outside {A : Nat} {bs : List Byte} {s : State} (h : s.params.storeSize < A + bs.length) :
    memWrite A bs s = .violate .storeRange :=
  if_neg h.not_ge

theorem memReadByte_outside {s : State} {a : Nat} (h : s.params.storeSize ≤ a) : memReadByte s a = .error .storeRange :=
  if_neg h.not_gt

/-- Settles O24: by the read law of `MemWrite`, inside the store and outside it. -/
theorem memWriteThenRead : Obligations.MemWriteThenRead := by
  refine fun s A bs => ⟨fun inside => ?_, memWrite_outside, fun a => memReadByte_outside⟩
  have stored := memWrite_of (s := s) inside
  refine ⟨_, stored, rfl, fun k b => memReadByte_memWrite stored, fun a elsewhere => ?_⟩
  rw [readByte_memWrite stored, if_neg (by omega)]

/-! ## The canonical form (log 4, log 15) -/

/-- In a list of rising addresses each listed byte is the one found at its address. -/
theorem lookupCell_of_mem {cs : List Host.Cell} (rising : (cs.map Prod.fst).Pairwise (· < ·)) {a : Nat} {b : Byte}
    (h : (a, b) ∈ cs) : lookupCell cs a = some b := by
  induction cs with
  | nil => cases h
  | cons c cs ih =>
    obtain ⟨x, v⟩ := c
    obtain ⟨first, rest⟩ := List.pairwise_cons.1 rising
    rcases List.mem_cons.1 h with head | tail
    · cases head
      exact if_pos rfl
    · have below : x < a := first a (List.mem_map_of_mem tail)
      exact (if_neg below.ne).trans (ih rest tail)

theorem Memory.read_of_listed {S : Nat} {m : Memory} {a : Nat} {b : Byte} (h : lookupCell m.cells a = some b) :
    m.read S a = some b := by
  rw [Memory.read, h]

theorem Memory.read_of_unlisted {S : Nat} {m : Memory} {a : Nat} (h : lookupCell m.cells a = none) :
    m.read S a = m.background S a := by
  rw [Memory.read, h]

/-- A canonical store lists exactly the bytes it reads that an unlisted address would not read as. -/
theorem Memory.mem_cells_iff {S : Nat} {m : Memory} (canonical : m.wf S) {a : Nat} {b : Byte} :
    (a, b) ∈ m.cells ↔ m.read S a = some b ∧ m.background S a ≠ some b := by
  obtain ⟨rising, noBackground, -⟩ := canonical
  constructor
  · exact fun listed => ⟨Memory.read_of_listed (lookupCell_of_mem rising listed), noBackground (a, b) listed⟩
  · rintro ⟨reads, other⟩
    cases found : lookupCell m.cells a with
    | some b' =>
      obtain rfl : b' = b := Option.some.inj ((Memory.read_of_listed found).symm.trans reads)
      exact mem_of_lookupCell found
    | none => exact absurd ((Memory.read_of_unlisted found).symm.trans reads) other

/-- Two lists of rising addresses with the same cells are the same list. -/
theorem cells_eq_of_mem_iff {cs ds : List Host.Cell} (hcs : (cs.map Prod.fst).Pairwise (· < ·))
    (hds : (ds.map Prod.fst).Pairwise (· < ·)) (same : ∀ c, c ∈ cs ↔ c ∈ ds) : cs = ds := by
  have irrefl : Std.Irrefl fun c d : Host.Cell => c.1 < d.1 := ⟨fun c => lt_irrefl c.1⟩
  have antisymm : Std.Antisymm fun c d : Host.Cell => c.1 < d.1 := ⟨fun _ _ h h' => absurd h h'.asymm⟩
  exact (List.pairwise_map.1 hcs).eq_of_mem_iff (List.pairwise_map.1 hds) same

/-- Settles O26: the reads and the zero-filled slabs decide which cells a canonical store lists. -/
theorem canonicalStoresThatReadAlikeAreEqual : Obligations.CanonicalStoresThatReadAlikeAreEqual := by
  intro S m n hm hn zeroed reads
  have background : ∀ a, m.background S a = n.background S a := fun a => by
    rw [Memory.background, Memory.background, zeroed]
  have cells : m.cells = n.cells := cells_eq_of_mem_iff hm.1 hn.1 fun (a, b) => by
    rw [Memory.mem_cells_iff hm, Memory.mem_cells_iff hn, reads, background]
  cases m
  cases n
  exact congrArg₂ Memory.mk cells zeroed

/-! ## Packed bytes (R51, R142) -/

theorem Memory.read_writeBytes_below {S a x : Nat} (m : Memory) (bs : List Byte) (h : x < a) :
    (m.writeBytes S a bs).read S x = m.read S x := by
  rw [Memory.read_writeBytes, if_neg (by omega)]

/-- A packed byte lies in the current slab or in one before it, so initialising the next slab keeps it (R142). -/
theorem Memory.read_zeroSlab_succ_below {S f p x : Nat} (m : Memory) (inside : p ≤ S) (h : x < f * S + p) :
    (m.zeroSlab S (f + 1)).read S x = m.read S x := by
  have slab : x / S < f + 1 := Nat.div_lt_of_lt_mul (by rw [Nat.mul_comm, Nat.succ_mul]; omega)
  rw [Memory.read_zeroSlab, if_neg slab.ne]

/-- The group-pack step writes at the group position, so below it every byte stays (R96). -/
theorem readByte_packGroup_below {c a : Nat} {s u : State} (h : packGroup c s = .ok u) (ha : a < groupAddr s) :
    readByte u a = readByte s a := by
  obtain ⟨pack, -, -, -, -, rfl⟩ := packGroup_eq_ok h
  exact Memory.read_writeBytes_below s.mem _ ha

theorem execWrite_keeps_packed {s t : State} {v : BitVec 32} (inside : s.slabPos ≤ s.params.slabSize)
    (h : execWrite v s = .next t) {a : Nat} (ha : a < groupAddr s) : readByte t a = readByte s a := by
  obtain ⟨-, -, hc, ⟨-, rfl⟩ | ⟨-, u, packed, rest⟩⟩ := execWrite_eq_next h
  · rfl
  · have keeps : readByte u a = readByte s a := (readByte_packGroup_below packed ha :)
    rcases rest with ⟨-, rfl⟩ | ⟨-, -, -, rfl⟩ | ⟨-, -, rfl⟩
    · exact keeps
    · obtain ⟨pack, -, -, -, -, rfl⟩ := packGroup_eq_ok packed
      exact (Memory.read_zeroSlab_succ_below _ inside ha).trans keeps
    · exact keeps

theorem execFinish_keeps_packed {s t : State} (h : execFinish s = .next t) {a : Nat} (ha : a < groupAddr s) :
    readByte t a = readByte s a := by
  obtain ⟨-, u, flushed, rfl⟩ := execFinish_eq_next h
  rcases flush_eq_ok flushed with ⟨-, rfl⟩ | ⟨-, pack, -, -, -, -, rfl⟩
  · rfl
  · exact Memory.read_writeBytes_below s.mem _ ha

theorem engineOp_keeps_packed {W : Nat} {pack : Slots → List Byte} {s t : State} (h : engineOp W pack s = .next t)
    {a : Nat} (ha : a < groupAddr s) : readByte t a = readByte s a := by
  rcases engineOp_eq_next h with ⟨-, rfl⟩ | ⟨-, -, -, -, rfl⟩
  · rfl
  · exact Memory.read_writeBytes_below s.mem _ ha

/-- Settles O51: the group-pack step writes from the group position on, a rotation fills the slab after the current one,
and the commands that answer from the state write no byte. -/
theorem packedBytesAreReadOnly : Obligations.PackedBytesAreReadOnly := by
  intro s t i inside notNew h a ha
  cases width : i.engineWidth with
  | some W =>
    obtain ⟨pack, -, runs⟩ := exec_of_engineWidth width
    exact engineOp_keeps_packed ((runs s).symm.trans h) ha
  | none =>
    cases i with
    | new w => exact absurd rfl (notNew w)
    | write v => exact execWrite_keeps_packed inside h ha
    | finish => exact execFinish_keeps_packed h ha
    | drain =>
      obtain ⟨-, -, b, -, rfl⟩ := execDrain_eq_next h
      rfl
    | rsize =>
      obtain ⟨-, rfl⟩ := execRsize_eq_next h
      rfl
    | asize =>
      obtain ⟨-, rfl⟩ := execAsize_eq_next h
      rfl
    | _ => cases width

end Sys2Proof.Machine
end

section
/-! SUPPORT. Decoding and encoding are inverse to each other (spec/30_encoding.md R70 to R78). The engines are taken as
one family: select `n` is the word of the engine of width `n`. The commands go through the two fields of their word. -/

namespace Sys2Proof

/-! ## The word of an instruction decodes to it -/

/-- The word of an engine is its width as a select value (R78). -/
theorem encode_of_engineWidth {i : Instr} {W : Nat} (width : i.engineWidth = some W) :
    encode i = .select (BitVec.ofNat 6 W) := by
  cases i <;> cases width <;> rfl

/-- An engine is what its number as a select value names (R78). -/
theorem decodeSelect_of_engineWidth {i : Instr} {W : Nat} (width : i.engineWidth = some W) :
    decodeSelect (BitVec.ofNat 6 W) = .ok i := by
  cases i <;> cases width <;> rfl

/-- The word of a command has its operation code in `op` and its operand, if it has one, in `arg` (R71 to R74). -/
theorem decode_encode (i : Instr) : decode (encode i) = .ok i := by
  cases width : i.engineWidth with
  | some W => rw [encode_of_engineWidth width, decode, decodeSelect_of_engineWidth width]
  | none =>
    cases i with
    | new w => simp [encode, decode, decodeCommand_commandWord]
    | write v => simp [encode, decode, decodeCommand_commandWord]
    | finish => rfl
    | rsize => rfl
    | asize => rfl
    | drain => rfl
    | _ => cases width

/-- Settles O1: every instruction term is well formed, so the round trip needs no hypothesis. -/
theorem decodeInvertsEncode : Obligations.DecodeInvertsEncode := fun i _ => decode_encode i

/-! ## A word that decodes is the encoding of what it decodes to -/

/-- No bit of an accepted command word is dropped: `op` names the command, and `arg` is its operand or all zero. -/
theorem encode_of_decodeCommand {c : CmdWord} {i : Instr} (decoded : decodeCommand c = .ok i) :
    encode i = .command c := by
  obtain ⟨op, arg, rfl⟩ : ∃ op arg, c = commandWord op arg := ⟨_, _, (commandWord_fields c).symm⟩
  rw [decodeCommand_commandWord] at decoded
  split_ifs at decoded with isNew isWrite isFinish isRsize isAsize isDrain <;> cases decoded
  · rw [encode, isNew]
  · rw [encode, isWrite]
  · rw [encode, isFinish.1, isFinish.2]
  · rw [encode, isRsize.1, isRsize.2]
  · rw [encode, isAsize.1, isAsize.2]
  · rw [encode, isDrain.1, isDrain.2]

/-- A select value is the number of the engine it names. -/
theorem encode_of_decodeSelect {sel : Select} {i : Instr} (decoded : decodeSelect sel = .ok i) :
    encode i = .select sel := by
  rw [encode_of_engineWidth (decodeSelect_engineWidth decoded), BitVec.ofNat_toNat, BitVec.setWidth_eq]

/-- `decode` and `encode` are inverse to each other on the accepted words. -/
theorem decode_eq_ok_iff {t : TableWord} {i : Instr} : decode t = .ok i ↔ encode i = t := by
  refine ⟨fun decoded => ?_, fun encoded => encoded ▸ decode_encode i⟩
  cases t with
  | command c => exact encode_of_decodeCommand decoded
  | select sel => exact encode_of_decodeSelect decoded

/-- Settles O2: the half of `decode_eq_ok_iff` that goes from the word to the instruction. -/
theorem encodeInvertsDecode : Obligations.EncodeInvertsDecode := fun _ _ => decode_eq_ok_iff.mp

end Sys2Proof
end

section
/-! SUPPORT. The rows of the opcode table and the words that match none of them (spec/30_encoding.md R71, R76, R78). -/

namespace Sys2Proof

open Sys2Proof.Laws Sys2Proof.Machine

/-! ## Matching a row -/

/-- The encoding of every instruction matches its own row, which is in the table: `RowMatches` of all 38. -/
theorem rowMatches (i : Instr) : RowMatches.Statement i := by
  cases i
  exacts [RowMatches.new _, RowMatches.write _, RowMatches.finish, RowMatches.rsize, RowMatches.asize, RowMatches.drain,
    RowMatches.pack8w1, RowMatches.pack8w2, RowMatches.pack8w3, RowMatches.pack8w4, RowMatches.pack8w5,
    RowMatches.pack8w6, RowMatches.pack8w7, RowMatches.pack8w8, RowMatches.pack8w9, RowMatches.pack8w10,
    RowMatches.pack8w11, RowMatches.pack8w12, RowMatches.pack8w13, RowMatches.pack8w14, RowMatches.pack8w15,
    RowMatches.pack8w16, RowMatches.pack8w17, RowMatches.pack8w18, RowMatches.pack8w19, RowMatches.pack8w20,
    RowMatches.pack8w21, RowMatches.pack8w22, RowMatches.pack8w23, RowMatches.pack8w24, RowMatches.pack8w25,
    RowMatches.pack8w26, RowMatches.pack8w27, RowMatches.pack8w28, RowMatches.pack8w29, RowMatches.pack8w30,
    RowMatches.pack8w31, RowMatches.pack8w32]

/-- Every row of the table is the row of an instruction. -/
theorem exists_row_eq_of_mem : ∀ r ∈ opcodeTable, ∃ i : Instr, i.row = r := by
  simp only [opcodeTable, List.forall_mem_append, List.forall_mem_cons, List.not_mem_nil,
    exists_apply_eq_apply, false_implies, implies_true, and_self]

theorem OpcodeRow.matchesWord_command {r : OpcodeRow} {c : CmdWord} :
    r.matchesWord (.command c) = true ↔ r.bits = 35 ∧ c &&& BitVec.ofNat 35 r.mask = BitVec.ofNat 35 r.pattern := by
  simp only [OpcodeRow.matchesWord, Bool.and_eq_true, decide_eq_true_eq]

theorem OpcodeRow.matchesWord_select {r : OpcodeRow} {sel : Select} :
    r.matchesWord (.select sel) = true ↔ r.bits = 6 ∧ sel &&& BitVec.ofNat 6 r.mask = BitVec.ofNat 6 r.pattern := by
  simp only [OpcodeRow.matchesWord, Bool.and_eq_true, decide_eq_true_eq]

/-- The row of an engine: all six bits are looked at, and they are the engine's number (R78). -/
theorem row_of_engineWidth {i : Instr} {W : Nat} (width : i.engineWidth = some W) :
    i.row.bits = 6 ∧ i.row.pattern = W ∧ i.row.mask = 0x3F := by
  cases i <;> cases width <;> exact ⟨rfl, rfl, rfl⟩

/-- The rows of the commands are of format CMD. -/
theorem row_bits_of_command {i : Instr} (command : i.engineWidth = none) : i.row.bits = 35 := by
  cases i <;> cases command <;> rfl

/-- A word under a mask of all its bits. -/
theorem and_fullMask {n : Nat} (x : BitVec n) : x &&& BitVec.ofNat n (2 ^ n - 1) = x := by
  rw [show BitVec.ofNat n (2 ^ n - 1) = BitVec.allOnes n from BitVec.eq_of_toNat_eq (by simp), BitVec.and_allOnes]

/-- A word under the mask of `op` shows the operation code (R71), so `op` is read off the row's pattern. -/
theorem opField_of_and_opMask {c : CmdWord} {op : BitVec 3}
    (masked : c &&& BitVec.ofNat 35 0x700000000 = commandWord op 0) : opField c = op := by
  rw [← commandWord_fields c, commandWord_and_opMask] at masked
  simpa using congrArg opField masked

/-- A word that matches the row of a command is the word of an instruction with that row: of the command itself, or,
where the row leaves `arg` open, of the command with the word's `arg` as its operand. -/
theorem exists_encode_of_command_matches {i : Instr} {c : CmdWord} (command : i.engineWidth = none)
    (masked : c &&& BitVec.ofNat 35 i.row.mask = BitVec.ofNat 35 i.row.pattern) :
    ∃ j : Instr, j.row = i.row ∧ encode j = .command c := by
  cases i with
  | new w =>
    have op : opField c = 1 := opField_of_and_opMask (masked.trans (by decide : 0x100000000#35 = commandWord 1 0))
    exact ⟨.new (argField c), rfl, by rw [encode, ← op, commandWord_fields]⟩
  | write v =>
    have op : opField c = 2 := opField_of_and_opMask (masked.trans (by decide : 0x200000000#35 = commandWord 2 0))
    exact ⟨.write (argField c), rfl, by rw [encode, ← op, commandWord_fields]⟩
  | finish => exact ⟨.finish, rfl, congrArg _ (masked.symm.trans (and_fullMask c))⟩
  | rsize => exact ⟨.rsize, rfl, congrArg _ (masked.symm.trans (and_fullMask c))⟩
  | asize => exact ⟨.asize, rfl, congrArg _ (masked.symm.trans (and_fullMask c))⟩
  | drain => exact ⟨.drain, rfl, congrArg _ (masked.symm.trans (and_fullMask c))⟩
  | _ => cases command

/-- A word that matches a row is the encoding of an instruction with that row. -/
theorem exists_encode_of_matchesWord {i : Instr} {t : TableWord} (matched : i.row.matchesWord t = true) :
    ∃ j : Instr, j.row = i.row ∧ encode j = t := by
  cases width : i.engineWidth with
  | some W =>
    obtain ⟨bits, pattern, mask⟩ := row_of_engineWidth width
    cases t with
    | command c => simp [OpcodeRow.matchesWord_command, bits] at matched
    | select sel =>
      obtain ⟨-, masked⟩ := OpcodeRow.matchesWord_select.mp matched
      rw [mask, pattern] at masked
      have number : sel = BitVec.ofNat 6 W := (and_fullMask sel).symm.trans masked
      exact ⟨i, rfl, number ▸ encode_of_engineWidth width⟩
  | none =>
    cases t with
    | command c => exact exists_encode_of_command_matches width (OpcodeRow.matchesWord_command.mp matched).2
    | select sel => simp [OpcodeRow.matchesWord_select, row_bits_of_command width] at matched

/-- Settles O3: a matching word is the encoding of an instruction with the row, and decoding gives that instruction; a
word that decodes is the encoding of the instruction, which matches the instruction's row. -/
theorem wordDecodesToTheOneMatchingRow : Obligations.WordDecodesToTheOneMatchingRow := by
  refine ⟨fun t r listed matched => ?_, fun t i decoded => ?_⟩
  · obtain ⟨i, rfl⟩ := exists_row_eq_of_mem r listed
    obtain ⟨j, sameRow, encoded⟩ := exists_encode_of_matchesWord matched
    exact ⟨j, decode_eq_ok_iff.mpr encoded, sameRow⟩
  · rw [← decode_eq_ok_iff.mp decoded]
    exact rowMatches i

/-! ## The reserved words (R76) -/

/-- The words of the command port that name no command: the eight values of `op`, each with `arg` zero and not zero. -/
theorem decodeCommand_refuses_iff_fields (c : CmdWord) :
    (∀ i, decodeCommand c ≠ .ok i) ↔
      (opField c = 0 ∨ opField c = 7 ∨ (3 ≤ (opField c).toNat ∧ (opField c).toNat ≤ 6 ∧ argField c ≠ 0)) := by
  rw [← commandWord_fields c, decodeCommand_commandWord, opField_commandWord, argField_commandWord]
  generalize opField c = op
  by_cases zero : argField c = 0#32 <;>
    rcases op_cases op with rfl | rfl | rfl | rfl | rfl | rfl | rfl | rfl <;> simp [zero]

/-- A word names no command exactly when no row matches it. -/
theorem decodeCommand_refuses_iff_no_row (c : CmdWord) :
    (∀ i, decodeCommand c ≠ .ok i) ↔ ∀ r ∈ opcodeTable, r.matchesWord (.command c) = false := by
  obtain ⟨decodes_of_match, match_of_decodes⟩ := wordDecodesToTheOneMatchingRow
  constructor
  · intro refused r listed
    by_contra matched
    obtain ⟨i, decoded, -⟩ := decodes_of_match (.command c) r listed (by simpa using matched)
    exact refused i decoded
  · intro unmatched i decoded
    obtain ⟨listed, matched⟩ := match_of_decodes (.command c) i decoded
    simp [unmatched i.row listed] at matched

/-- A reserved word at the command port is the violation PV_CMD, whatever the phase (R76, R172). -/
theorem step_of_reserved {s : State} {c : CmdWord} {cs : List CmdWord} (legal : s.params.legal = true)
    (noGrant : s.grant = false) (presented : s.cmds = c :: cs) (refused : ∀ i, decodeCommand c ≠ .ok i) :
    step s = .fault .pvCmd := by
  cases decoded : decodeCommand c with
  | ok i => exact absurd decoded (refused i)
  | error e => simp [step, legal, fetch, noGrant, fetchCommand, presented, decoded]

/-- Settles O4. -/
theorem reservedWordsFaultPvCmd : Obligations.ReservedWordsFaultPvCmd :=
  ⟨decodeCommand_refuses_iff_fields, decodeCommand_refuses_iff_no_row, fun _ _ _ => step_of_reserved⟩

/-! ## The select values (R78) -/

/-- Settles O5: a width has an engine exactly when it is 1 to 32, and those are the select values that decode. -/
theorem selectNamesEngineOfItsNumber : Obligations.SelectNamesEngineOfItsNumber := by
  intro sel
  refine ⟨fun ⟨low, high⟩ => ?_, fun outside => ⟨decodeSelect_out_of_range outside, ?_⟩⟩
  · obtain ⟨i, decoded⟩ := decodeSelect_of_range low high
    obtain ⟨pack, engine⟩ := engineOf_isSome low high
    exact ⟨i, pack, decoded, decodeSelect_engineWidth decoded, engine⟩
  · cases engine : engineOf sel.toNat with
    | none => rfl
    | some pack =>
      have inside := engineOf_range engine
      omega

end Sys2Proof
end

section
/-! SUPPORT. The assembler's ENCODE (spec/30_encoding.md R79, R80), and the words of opcode-table rows as numbers: what
they decode to and how a step takes one that is presented (log 5, log 7, log 8). -/

namespace Sys2Proof

/-! ## ENCODE -/

theorem operandFits_iff {n : Nat} : operandFits n = true ↔ n < 2 ^ 32 := decide_eq_true_iff

/-- An ENCODE line is well formed when its width and all its values fit 32 bits (R79). -/
theorem encodeSeq_wellFormed_iff {w : Nat} {xs : List Nat} :
    (AsmLine.encodeSeq w xs).wellFormed = true ↔ w < 2 ^ 32 ∧ ∀ x ∈ xs, x < 2 ^ 32 := by
  simp only [AsmLine.wellFormed, Bool.and_eq_true, List.all_eq_true, operandFits_iff]

theorem assemble_encodeSeq (w : Nat) (xs : List Nat) :
    (AsmLine.encodeSeq w xs).assemble =
      if (AsmLine.encodeSeq w xs).wellFormed then
        some (encodeStream (BitVec.ofNat 32 w) (xs.map (BitVec.ofNat 32)))
      else none := rfl

/-- A session's command words decode to NEW, the WRITEs in order and FINISH (R80 (a)). -/
theorem map_decodeCommand_encodeStream (w : BitVec 32) (xs : List (BitVec 32)) :
    (encodeStream w xs).map decodeCommand = (Instr.new w :: (xs.map Instr.write ++ [Instr.finish])).map .ok := by
  have write_decodes : decodeCommand ∘ commandWord 2 = .ok ∘ Instr.write := funext fun v => decode_encode (.write v)
  have new_decodes : decodeCommand (commandWord 1 w) = .ok (.new w) := decode_encode (.new w)
  have finish_decodes : decodeCommand (commandWord 3 0) = .ok .finish := decode_encode .finish
  simp only [encodeStream, List.map_cons, List.map_append, List.map_map, List.map_nil, new_decodes, finish_decodes,
    write_decodes]

/-- Settles O7: the line is assembled exactly when it is well formed, and then to a session's command words. -/
theorem encodeLineExpandsOrIsRefused : Obligations.EncodeLineExpandsOrIsRefused := by
  intro w xs
  rw [assemble_encodeSeq]
  refine ⟨fun width values => ⟨_, if_pos (encodeSeq_wellFormed_iff.mpr ⟨width, values⟩), ?_⟩,
    fun tooWide => if_neg fun wellFormed => ?_⟩
  · rw [map_decodeCommand_encodeStream, List.map_map]
    rfl
  · obtain ⟨width, values⟩ := encodeSeq_wellFormed_iff.mp wellFormed
    obtain wide | ⟨x, listed, wide⟩ := tooWide
    · omega
    · exact absurd (values x listed) (Nat.not_lt.mpr wide)

/-! ## Words of opcode-table rows -/

/-- A number names an instruction exactly when the word it stands for is the instruction's encoding. -/
theorem decodeTableWord_eq_some_iff {nbits w : Nat} {i : Instr} :
    decodeTableWord nbits w = some i ↔ tableWord nbits w = some (encode i) := by
  unfold decodeTableWord
  cases word : tableWord nbits w with
  | none => simp
  | some t =>
    rw [Option.some_inj, eq_comm (a := t), ← decode_eq_ok_iff]
    dsimp only
    cases decode t <;> simp

/-- Settles O6: each listed word is the encoding of the instruction it names, and the two reserved words decode to
nothing. -/
theorem listedWordsDecode : Obligations.ListedWordsDecode := by
  simp only [Obligations.ListedWordsDecode, decodeTableWord_eq_some_iff]
  decide

end Sys2Proof

namespace Sys2Proof.Machine

/-- With a grant and a select value that names an engine, the step is the engine's meaning (R78, R95; log 7). -/
theorem step_of_select {s : State} {i : Instr} (legal : s.params.legal = true) (granted : s.grant = true)
    (decoded : decodeSelect s.bw = .ok i) : step s = exec i { s with grant := false } := by
  simp [step, legal, fetch, granted, fetchSelect, decoded]

/-- Presenting the word of an instruction by its number is presenting that word. -/
theorem withFetchWord_of_decodeTableWord {nbits w : Nat} {i : Instr} (decoded : decodeTableWord nbits w = some i)
    (s : State) : s.withFetchWord nbits w = presentWord s (encode i) := by
  simp only [State.withFetchWord, presentTableWord, decodeTableWord_eq_some_iff.mp decoded]

/-- Settles O10: a presented command word stands first in the stream and no grant goes before it; a presented select
value stands in `bw` with the grant given. -/
theorem presentedWordRunsNext : Obligations.PresentedWordRunsNext := by
  intro s nbits w i legal decoded
  rw [withFetchWord_of_decodeTableWord decoded]
  refine ⟨fun c encoded => ?_, fun sel encoded => ?_⟩ <;> rw [encoded]
  · exact step_of_command legal rfl rfl (decode_eq_ok_iff.mpr encoded)
  · exact step_of_select legal rfl (decode_eq_ok_iff.mpr encoded)

end Sys2Proof.Machine
end

section
/-! SUPPORT. The bit stream of a packed group (spec/40_packer_contract.md R92, R93, R97, R98): position
`i * W + (W - 1 - j)` of the stream is bit `j` of lane `i`. What the lanes say about the stream says everything about
the bytes. -/

namespace Sys2Proof.Machine

/-! ## Positions -/

/-- Position `p` is where bit `j` of lane `i` goes exactly when the layout reads that bit there (R92). -/
theorem eq_position_iff {W i j p : Nat} (hj : j < W) :
    p = i * W + (W - 1 - j) ↔ p / W = i ∧ W - 1 - p % W = j := by
  have decomposed := Nat.div_add_mod' p W
  have rest := Nat.mod_lt p (Nat.zero_lt_of_lt hj)
  constructor
  · rintro rfl
    rw [Nat.add_comm (i * W), Nat.add_mul_div_right _ _ (by omega), Nat.div_eq_of_lt (by omega),
      Nat.add_mul_mod_self_right, Nat.mod_eq_of_lt (by omega)]
    omega
  · rintro ⟨rfl, rfl⟩
    omega

/-- The stream bit at the position of bit `j` of lane `i` is that bit. -/
theorem streamBit_position {W i j : Nat} (hj : j < W) (v : Slots) :
    streamBit W v (i * W + (W - 1 - j)) = (lane v i).getLsbD j := by
  obtain ⟨lane_at, bit_at⟩ := (eq_position_iff hj).mp rfl
  rw [streamBit, lane_at, bit_at]

theorem lane_set {i : Nat} (hi : i < 8) (v : Slots) (x : Slot) (n : Nat) :
    lane (v.set i x hi) n = if i = n then x else lane v n := by
  by_cases h : i = n
  · subst h
    simp [lane, hi]
  · simp [lane, h]

/-! ## What the lanes make of the stream -/

/-- Flipping bit `j` of lane `i` flips the stream at that bit's position and nowhere else (R93 (b)). -/
theorem streamBit_flip {W i j : Nat} (hi : i < 8) (hW : W ≤ 32) (hj : j < W) (v : Slots) (p : Nat) :
    streamBit W (v.set i (v[i] ^^^ BitVec.twoPow 32 j) hi) p =
      if p = i * W + (W - 1 - j) then !streamBit W v p else streamBit W v p := by
  have j32 : j < 32 := by omega
  rw [streamBit, streamBit, lane_set]
  by_cases here : i = p / W
  · subst here
    simp only [eq_position_iff hj, if_true, true_and, BitVec.getLsbD_xor, BitVec.getLsbD_twoPow, j32, decide_true,
      Bool.true_and, ← lane_eq hi]
    by_cases bit : W - 1 - p % W = j
    · simp [bit]
    · simp [bit, Ne.symm bit]
  · rw [if_neg here, if_neg fun at_bit => here ((eq_position_iff hj).mp at_bit).1.symm]

/-- Where lanes `c` to 7 are zero, the stream is zero from position `c * W` on (R98). -/
theorem streamBit_of_zero_lanes {W c p : Nat} {v : Slots} (hW : 0 < W) (zero : ∀ i : Fin 8, c ≤ i.val → v[i] = 0)
    (hp : c * W ≤ p) : streamBit W v p = false := by
  have past : c ≤ p / W := (Nat.le_div_iff_mul_le hW).mpr hp
  have lane_zero : lane v (p / W) = 0 := by
    by_cases inside : p / W < 8
    · exact (lane_eq inside v).trans (zero ⟨p / W, inside⟩ past)
    · exact lane_of_le (by omega) v
  rw [streamBit, lane_zero, BitVec.ofNat_eq_ofNat, BitVec.getLsbD_zero]

/-- The stream of a group of eight equal lanes repeats the lane's bits. -/
theorem streamBit_replicate {W p : Nat} (hp : p < 8 * W) (x : Slot) :
    streamBit W (Vector.replicate 8 x) p = x.getLsbD (W - 1 - p % W) := by
  have inside : p / W < 8 := Nat.div_lt_of_lt_mul (by omega)
  rw [streamBit, lane_eq inside, Vector.getElem_replicate]

/-! ## What the stream makes of the bytes -/

/-- A byte of a packed group whose eight stream bits are all the same. -/
theorem packByte_of_constant {W k : Nat} {v : Slots} {x : Bool}
    (same : ∀ b < 8, streamBit W v (8 * k + (7 - b)) = x) : packByte W v k = if x then 0xFF else 0 := by
  apply BitVec.eq_of_getLsbD_eq
  intro b hb
  rw [packByte, byteOfBits_getLsbD hb, same b hb]
  cases x
  · simp
  · interval_cases b <;> rfl

/-- Settles O17: a bit of the output is the stream bit at its position, and the flip changes the stream there only. -/
theorem eachLaneBitDrivesOneOutputBit : Obligations.EachLaneBitDrivesOneOutputBit := by
  intro W v i j hi _ hW hj k b hk hb
  rw [packGeneric_getLsbD hk hb, packGeneric_getLsbD hk hb, streamBit_flip hi hW hj]

/-- Settles O18: both halves by the zero stream from position `c * W` on. -/
theorem zeroLanesGiveZeroBytes : Obligations.ZeroLanesGiveZeroBytes := by
  intro W c k v hW _ _ zero hk
  refine ⟨fun b hb past => ?_, fun past => ?_⟩
  · rw [packGeneric_getLsbD hk hb, streamBit_of_zero_lanes hW zero past]
  · rw [packGeneric_getElem? hk, packByte_of_constant (x := false), if_neg Bool.false_ne_true]
    intro b hb
    refine streamBit_of_zero_lanes hW zero ?_
    unfold ceil8 at past
    omega

/-- A group whose stream bits are all the same is one byte `W` times. -/
theorem packGeneric_of_constant {W : Nat} {v : Slots} {x : Bool}
    (same : ∀ p < 8 * W, streamBit W v p = x) : packGeneric W v = List.replicate W (if x then 0xFF else 0) := by
  refine List.eq_replicate_iff.mpr ⟨packGeneric_length W v, fun byte listed => ?_⟩
  obtain ⟨k, hk, rfl⟩ := List.mem_map.mp listed
  have inside := List.mem_range.mp hk
  exact packByte_of_constant fun b hb => same _ (by omega)

/-- Settles O20: the lanes have all bits below `W` clear, or all set, and so has the stream. -/
theorem uniformLanesGiveUniformBytes : Obligations.UniformLanesGiveUniformBytes := by
  intro W low high
  refine ⟨packGeneric_of_constant (x := false) fun p hp => ?_, packGeneric_of_constant (x := true) fun p hp => ?_⟩
  · rw [streamBit_replicate hp, BitVec.ofNat_eq_ofNat, BitVec.getLsbD_zero]
  · rw [streamBit_replicate hp, BitVec.getLsbD_ofNat, Nat.testBit_two_pow_sub_one, Bool.and_eq_true, decide_eq_true_eq,
      decide_eq_true_eq]
    omega

end Sys2Proof.Machine
end

section
/-! SUPPORT. A packed group as one number (spec/40_packer_contract.md R92, R93 (f); spec/95_test_vectors.md section 6):
its digits to the base `2 ^ W` are the lanes, its digits to the base 256 are the bytes, and its bits, from the most
significant one down, are the bit stream. -/

namespace Sys2Proof.Machine

/-! ## Numbers from digits -/

/-- The number whose digits to the base `2 ^ w` are the list, the first digit the most significant. -/
def numberOfDigits (w : Nat) (ds : List Nat) : Nat := ds.foldl (fun n d => n * 2 ^ w + d) 0

theorem groupNumber_eq (W : Nat) (v : Slots) : groupNumber W v = numberOfDigits W (v.toList.map BitVec.toNat) := rfl

theorem bytesNumber_eq (bs : List Byte) : bytesNumber bs = numberOfDigits 8 (bs.map BitVec.toNat) := by
  rw [bytesNumber, numberOfDigits, List.foldl_map]
  rfl

theorem numberOfDigits_concat (w : Nat) (ds : List Nat) (d : Nat) :
    numberOfDigits w (ds ++ [d]) = numberOfDigits w ds * 2 ^ w + d :=
  List.foldl_concat ..

theorem numberOfDigits_lt {w : Nat} {ds : List Nat} (small : ∀ d ∈ ds, d < 2 ^ w) :
    numberOfDigits w ds < 2 ^ (w * ds.length) := by
  induction ds using List.reverseRecOn with
  | nil => simp [numberOfDigits]
  | append_singleton ds d ih =>
    simp only [List.mem_append, List.mem_singleton] at small
    have init_lt := ih fun x hx => small x (.inl hx)
    have last_lt := small d (.inr rfl)
    rw [numberOfDigits_concat, List.length_append, List.length_singleton, Nat.mul_succ, Nat.pow_add]
    calc numberOfDigits w ds * 2 ^ w + d
        < (numberOfDigits w ds + 1) * 2 ^ w := by rw [Nat.succ_mul]; omega
      _ ≤ 2 ^ (w * ds.length) * 2 ^ w := Nat.mul_le_mul_right _ init_lt

/-- Digit `i` of a number, read back by a shift and a mask. -/
theorem numberOfDigits_digit {w : Nat} {ds : List Nat} (small : ∀ d ∈ ds, d < 2 ^ w) {i : Nat} (hi : i < ds.length) :
    numberOfDigits w ds / 2 ^ (w * (ds.length - 1 - i)) % 2 ^ w = ds[i] := by
  induction ds using List.reverseRecOn with
  | nil => cases hi
  | append_singleton ds d ih =>
    simp only [List.mem_append, List.mem_singleton] at small
    have last_lt := small d (.inr rfl)
    rw [List.length_append, List.length_singleton] at hi
    rw [numberOfDigits_concat]
    rcases Nat.lt_succ_iff_lt_or_eq.mp hi with before | rfl
    · have shift : (ds ++ [d]).length - 1 - i = ds.length - 1 - i + 1 := by simp; omega
      rw [shift, Nat.mul_succ, Nat.add_comm (w * _), Nat.pow_add, ← Nat.div_div_eq_div_mul, Nat.add_comm,
        Nat.add_mul_div_right _ _ (Nat.two_pow_pos w), Nat.div_eq_of_lt last_lt, Nat.zero_add,
        ih (fun x hx => small x (.inl hx)) before, List.getElem_append_left before]
    · simp [Nat.mod_eq_of_lt last_lt]

/-- Counted from the most significant bit, bit `p` of a number is bit `p mod w` of digit `p div w`. -/
theorem testBit_numberOfDigits {w : Nat} {ds : List Nat} (small : ∀ d ∈ ds, d < 2 ^ w) {p d : Nat}
    (hw : 0 < w) (hd : ds[p / w]? = some d) :
    (numberOfDigits w ds).testBit (w * ds.length - 1 - p) = d.testBit (w - 1 - p % w) := by
  obtain ⟨hp, rfl⟩ := List.getElem?_eq_some_iff.mp hd
  have rest := Nat.mod_lt p hw
  have position : w * ds.length - 1 - p = w * (ds.length - 1 - p / w) + (w - 1 - p % w) := by
    have decomposed := Nat.div_add_mod p w
    have room := Nat.mul_le_mul_left w (Nat.succ_le_of_lt hp)
    rw [Nat.mul_succ] at room
    rw [Nat.mul_sub, Nat.mul_sub, Nat.mul_one]
    omega
  have inside : decide (w - 1 - p % w < w) = true := decide_eq_true (by omega)
  rw [← numberOfDigits_digit small hp, Nat.testBit_mod_two_pow, inside, Bool.true_and, Nat.testBit_div_two_pow,
    position, Nat.add_comm]

/-! ## A group as a number -/

theorem lanesFit_iff {W : Nat} {v : Slots} : lanesFit W v = true ↔ ∀ i : Fin 8, (v[i]).toNat < 2 ^ W :=
  decide_eq_true_iff

theorem lanes_lt {W : Nat} {v : Slots} (fit : lanesFit W v = true) : ∀ d ∈ v.toList.map BitVec.toNat, d < 2 ^ W := by
  intro d listed
  obtain ⟨x, hx, rfl⟩ := List.mem_map.mp listed
  obtain ⟨i, hi, rfl⟩ := Vector.mem_iff_getElem.mp (Vector.mem_toList_iff.mp hx)
  exact lanesFit_iff.mp fit ⟨i, hi⟩

theorem bytes_lt (bs : List Byte) : ∀ d ∈ bs.map BitVec.toNat, d < 2 ^ 8 := by
  intro d listed
  obtain ⟨x, -, rfl⟩ := List.mem_map.mp listed
  exact x.isLt

/-- Counted from the most significant bit, bit `p` of the group's number is the stream bit at position `p`. -/
theorem testBit_groupNumber {W p : Nat} {v : Slots} (fit : lanesFit W v = true) (hp : p < 8 * W) :
    (groupNumber W v).testBit (8 * W - 1 - p) = streamBit W v p := by
  have inside : p / W < 8 := Nat.div_lt_of_lt_mul (by omega)
  have digit : (v.toList.map BitVec.toNat)[p / W]? = some (lane v (p / W)).toNat := by simp [inside, lane_eq]
  have bit := testBit_numberOfDigits (lanes_lt fit) (by omega) digit
  rw [List.length_map, Vector.length_toList, Nat.mul_comm W] at bit
  exact bit

/-- Counted from the most significant bit, bit `p` of the number of a packed group is the stream bit at position `p`. -/
theorem testBit_bytesNumber_packGeneric {W p : Nat} (v : Slots) (hp : p < 8 * W) :
    (bytesNumber (packGeneric W v)).testBit (8 * W - 1 - p) = streamBit W v p := by
  have inside : p / 8 < W := by omega
  have digit : ((packGeneric W v).map BitVec.toNat)[p / 8]? = some (packByte W v (p / 8)).toNat := by
    rw [List.getElem?_map, packGeneric_getElem? inside, Option.map_some]
  have bit := testBit_numberOfDigits (bytes_lt (packGeneric W v)) (by omega) digit
  rw [List.length_map, packGeneric_length] at bit
  have byte : (packByte W v (p / 8)).getLsbD (7 - p % 8) = streamBit W v p := by
    rw [packByte, byteOfBits_getLsbD (by omega)]
    congr 1
    omega
  rw [bytesNumber_eq, bit]
  exact byte

/-- The bytes of a packed group and its lanes are the digits of one number (R92). -/
theorem bytesNumber_packGeneric {W : Nat} {v : Slots} (fit : lanesFit W v = true) :
    bytesNumber (packGeneric W v) = groupNumber W v := by
  have group_lt : groupNumber W v < 2 ^ (8 * W) := by
    simpa [groupNumber_eq, Nat.mul_comm] using numberOfDigits_lt (lanes_lt fit)
  have bytes_number_lt : bytesNumber (packGeneric W v) < 2 ^ (8 * W) := by
    simpa [bytesNumber_eq] using numberOfDigits_lt (bytes_lt (packGeneric W v))
  apply Nat.eq_of_testBit_eq
  intro t
  by_cases ht : t < 8 * W
  · obtain ⟨p, hp, rfl⟩ : ∃ p < 8 * W, t = 8 * W - 1 - p := ⟨8 * W - 1 - t, by omega, by omega⟩
    rw [testBit_bytesNumber_packGeneric v hp, testBit_groupNumber fit hp]
  · have high : 2 ^ (8 * W) ≤ 2 ^ t := Nat.pow_le_pow_right (by omega) (by omega)
    rw [Nat.testBit_lt_two_pow (by omega), Nat.testBit_lt_two_pow (by omega)]

/-- The number of a group as the sum R92 writes out. -/
theorem groupNumber_eq_sum (W : Nat) (v : Slots) :
    groupNumber W v = (v[0]).toNat * 2 ^ (7 * W) + (v[1]).toNat * 2 ^ (6 * W) + (v[2]).toNat * 2 ^ (5 * W) +
      (v[3]).toNat * 2 ^ (4 * W) + (v[4]).toNat * 2 ^ (3 * W) + (v[5]).toNat * 2 ^ (2 * W) + (v[6]).toNat * 2 ^ W +
      (v[7]).toNat := by
  have lanes : v.toList = [v[0], v[1], v[2], v[3], v[4], v[5], v[6], v[7]] :=
    List.ext_getElem (by simp) fun i hi _ => by
      have hi : i < 8 := by simpa using hi
      interval_cases i <;> simp
  rw [groupNumber, lanes]
  simp only [List.map_cons, List.map_nil, List.foldl_cons, List.foldl_nil]
  ring

/-- Byte `k` of a packed group, as R92's integer identity gives it. -/
theorem packGeneric_toNat {W k : Nat} {v : Slots} (fit : lanesFit W v = true) (hk : k < W) :
    ((packGeneric W v)[k]?.getD 0).toNat = groupNumber W v / 2 ^ (8 * (W - 1 - k)) % 256 := by
  have digit := numberOfDigits_digit (bytes_lt (packGeneric W v)) (i := k) (by simpa using hk)
  rw [← bytesNumber_eq, bytesNumber_packGeneric fit] at digit
  simpa [hk] using digit.symm

/-- Settles O16: the positions and the formula by the stream, the integer identity by the digits. -/
theorem packGenericFollowsLayout : Obligations.PackGenericFollowsLayout := by
  intro W v hW _ fit
  refine ⟨packGeneric_length W v, ?_, ?_, groupNumber_eq_sum W v, fun k => packGeneric_toNat fit⟩
  · rintro i j p hi hj rfl
    have room := Nat.mul_le_mul_right W (Nat.succ_le_of_lt hi)
    rw [Nat.succ_mul] at room
    rw [packGeneric_getLsbD (by omega) (by omega), ← streamBit_position hj]
    congr 1
    omega
  · rintro k b p hk hb rfl
    exact packGeneric_getLsbD hk hb v

/-- Settles O19: `Unpack8` reads the digits of the number to the base `2 ^ W`, which are the lanes. -/
theorem unpackInvertsPackGeneric : Obligations.UnpackInvertsPackGeneric := by
  intro W v _ _ fit
  rw [unpack8, bytesNumber_packGeneric fit, groupNumber_eq]
  refine List.ext_getElem (by simp) fun i _ hi => ?_
  have digit := numberOfDigits_digit (lanes_lt fit) hi
  rw [List.getElem_map, List.getElem_range, ← digit, List.length_map, Vector.length_toList]

end Sys2Proof.Machine
end

section
/-! SUPPORT. The engines of R101 to R132 against the packer contract (spec/40_packer_contract.md R92, R94): every wire
of an engine carries a stretch of the bit stream, and side by side the wires carry the whole stream. -/

namespace Sys2Proof.Machine

/-! ## Wires -/

/-- The bits of a word, from the most significant one down, are those of the bit stream from position `p` on. -/
def CarriesStream (W : Nat) (v : Slots) (p : Nat) {n : Nat} (x : BitVec n) : Prop :=
  ∀ b < n, x.getLsbD b = streamBit W v (p + (n - 1 - b))

/-- The wires from bits `h` to `l` of lane `i` carry the stream from the position of bit `h` on. -/
theorem carriesStream_extractLsb {W p i h l : Nat} {v : Slots} (hi : i < 8) (hh : h < W) (hl : l ≤ h)
    (hp : p = i * W + (W - 1 - h)) : CarriesStream W v p (v[i].extractLsb h l) := by
  intro b hb
  have position : p + (h - l + 1 - 1 - b) = i * W + (W - 1 - (l + b)) := by omega
  rw [position, streamBit_position (by omega), lane_eq hi, BitVec.getLsbD_extractLsb,
    decide_eq_true hb, Bool.true_and]

/-- Words side by side carry the stream when each carries its stretch of it. -/
theorem carriesStream_append {W p n m : Nat} {v : Slots} {x : BitVec n} {y : BitVec m} :
    CarriesStream W v p (x ++ y) ↔ CarriesStream W v p x ∧ CarriesStream W v (p + n) y := by
  have low : ∀ b < m, p + (n + m - 1 - b) = p + n + (m - 1 - b) := by omega
  have high : ∀ b < n, p + (n + m - 1 - (b + m)) = p + (n - 1 - b) := by omega
  constructor
  · intro whole
    refine ⟨fun b hb => ?_, fun b hb => ?_⟩
    · rw [← high b hb, ← whole (b + m) (by omega), BitVec.getLsbD_append, if_neg (by omega), Nat.add_sub_cancel]
    · rw [← low b hb, ← whole b (by omega), BitVec.getLsbD_append, if_pos hb]
  · rintro ⟨left, right⟩ b hb
    rw [BitVec.getLsbD_append]
    split
    next inside => rw [right b inside, low b inside]
    next outside =>
      obtain ⟨c, rfl⟩ : ∃ c, b = c + m := ⟨b - m, by omega⟩
      rw [Nat.add_sub_cancel, left c (by omega), high c (by omega)]

/-- The same for words that stand as a byte: the width of the whole is not looked at when the lemma is applied, as in
`getLsbD_wires`. -/
theorem carriesStream_wires {W p n m : Nat} {v : Slots} {x : BitVec n} {y : BitVec m} :
    @CarriesStream W v p (no_index (n + m)) (x ++ y) ↔ CarriesStream W v p x ∧ CarriesStream W v (p + n) y :=
  carriesStream_append

/-! ## Bytes -/

/-- The bytes of a list carry the stream from position `p` on. -/
def BytesCarryStream (W : Nat) (v : Slots) (p : Nat) : List Byte → Prop
  | [] => True
  | x :: xs => CarriesStream W v p x ∧ BytesCarryStream W v (p + 8) xs

/-- Bit `b` of byte `k` of such a list (R92). -/
theorem BytesCarryStream.getLsbD {W p k b : Nat} {v : Slots} {bs : List Byte} (carry : BytesCarryStream W v p bs)
    (hk : k < bs.length) (hb : b < 8) : (bs[k]?.getD 0).getLsbD b = streamBit W v (p + (8 * k + (7 - b))) := by
  induction bs generalizing p k with
  | nil => cases hk
  | cons x xs ih =>
    obtain ⟨first, rest⟩ := carry
    cases k with
    | zero => simpa using first b hb
    | succ k =>
      rw [List.getElem?_cons_succ, ih rest (Nat.lt_of_succ_lt_succ hk)]
      congr 1
      omega

/-! ## The bank -/

/-- The wiring of each of R101 to R132, wire by wire: the lines of the rule carry the stream from its beginning. -/
theorem engineOf_carries {W : Nat} {pack : Slots → List Byte} (engine : engineOf W = some pack) (v : Slots) :
    BytesCarryStream W v 0 (pack v) := by
  obtain ⟨low, high⟩ := engineOf_range engine
  interval_cases W <;> cases engine <;>
    simp (disch := decide) only [pack8w1, pack8w2, pack8w3, pack8w4, pack8w5, pack8w6, pack8w7, pack8w8, pack8w9,
      pack8w10, pack8w11, pack8w12, pack8w13, pack8w14, pack8w15, pack8w16, pack8w17, pack8w18, pack8w19, pack8w20,
      pack8w21, pack8w22, pack8w23, pack8w24, pack8w25, pack8w26, pack8w27, pack8w28, pack8w29, pack8w30, pack8w31,
      pack8w32, BytesCarryStream, carriesStream_wires, carriesStream_extractLsb, and_self]

/-- Bit `b` of byte `k` of an engine is the stream bit at position `8k + (7 - b)` (R92). -/
theorem engineOf_getLsbD {W k b : Nat} {pack : Slots → List Byte} (engine : engineOf W = some pack) (hk : k < W)
    (hb : b < 8) (v : Slots) : ((pack v)[k]?.getD 0).getLsbD b = streamBit W v (8 * k + (7 - b)) := by
  have bit := (engineOf_carries engine v).getLsbD (k := k) (by rwa [engineOf_length engine]) hb
  rwa [Nat.zero_add] at bit

/-- An engine gives the bytes of the contract (R94). -/
theorem engineOf_eq_packGeneric {W : Nat} {pack : Slots → List Byte} (engine : engineOf W = some pack) (v : Slots) :
    pack v = packGeneric W v := by
  refine bytes_ext (by rw [engineOf_length engine, packGeneric_length]) fun k b hk hb => ?_
  rw [engineOf_length engine] at hk
  rw [engineOf_getLsbD engine hk hb, packGeneric_getLsbD hk hb]

/-- Settles O13. -/
theorem engineBitsFollowLayout : Obligations.EngineBitsFollowLayout := fun _ _ engine v =>
  ⟨engineOf_length engine v, fun _ _ hk hb => engineOf_getLsbD engine hk hb v⟩

/-- Settles O14. -/
theorem enginesEqualPackGeneric : Obligations.EnginesEqualPackGeneric := fun _ low high =>
  let ⟨pack, engine⟩ := engineOf_isSome low high
  ⟨pack, engine, engineOf_eq_packGeneric engine⟩

end Sys2Proof.Machine
end

section
/-! SUPPORT. The engines as instructions (spec/40_packer_contract.md R91, R94 to R96; log 7, log 9): what a selected one
writes, where it stops, and that the step with a grant is the arbiter's own write. -/

namespace Sys2Proof.Machine

theorem engineOp_of_selected {W : Nat} {s : State} (selected : s.width = W) (pack : Slots → List Byte) :
    engineOp W pack s = (engineWrite W pack s).silent := if_pos selected

theorem engineOp_of_unselected {W : Nat} {s : State} (unselected : s.width ≠ W) (pack : Slots → List Byte) :
    engineOp W pack s = .next s := if_neg unselected

/-- A selected engine is the arbiter's write (R95). -/
theorem exec_of_selected {i : Instr} {s : State} (width : i.engineWidth = some s.width) :
    exec i s = (arbiterWrite s).silent := by
  obtain ⟨pack, engine, runs⟩ := exec_of_engineWidth width
  rw [runs, engineOp_of_selected rfl, arbiterWrite_of engine]

/-- The window of a group in a slab that exists lies in the store (R50, R96). -/
theorem groupAddr_le_storeSize {s : State} {n : Nat} (window : s.slabPos + n ≤ s.params.slabSize)
    (slab : s.frozenCnt < s.params.maxSlabs) : groupAddr s + n ≤ s.params.storeSize :=
  calc groupAddr s + n
      = s.frozenCnt * s.params.slabSize + (s.slabPos + n) := by rw [groupAddr_eq, Nat.add_assoc]
    _ ≤ (s.frozenCnt + 1) * s.params.slabSize := by rw [Nat.succ_mul]; omega
    _ ≤ s.params.storeSize := Nat.mul_le_mul_right _ slab

/-- The arbiter's write inside the packer's contract stores the bytes of the contract (R91, R96). -/
theorem arbiterWrite_of_contract {s : State} {pack : Slots → List Byte} (engine : engineOf s.width = some pack)
    (fit : lanesFit s.width s.inReg = true) (window : s.slabPos + s.width ≤ s.params.slabSize)
    (slab : s.frozenCnt < s.params.maxSlabs) :
    arbiterWrite s = .ok { s with mem := s.mem.writeBytes s.params.slabSize (groupAddr s)
                                    (packGeneric s.width s.inReg) } := by
  have inside := groupAddr_le_storeSize window slab
  rw [← engineOf_length engine s.inReg] at inside
  rw [arbiterWrite_of engine, engineWrite_of fit window inside, engineOf_eq_packGeneric engine]

/-- Settles O21: the engine stores the contract's bytes, and the read law of the store says what every byte is after. -/
theorem selectedEngineWritesItsBytes : Obligations.SelectedEngineWritesItsBytes := by
  rintro i _ s width rfl fit window slab
  obtain ⟨pack, engine, -⟩ := exec_of_engineWidth width
  have stored := arbiterWrite_of_contract engine fit window slab
  refine ⟨_, by rw [exec_of_selected width, stored, Micro.silent_ok], rfl, fun k hk => ?_, fun a outside => ?_⟩
  · rw [readByte_mk, Memory.read_writeBytes, packGeneric_length, groupAddr, if_pos (by omega), Nat.add_sub_cancel_left]
  · rw [readByte_mk, Memory.read_writeBytes, packGeneric_length, groupAddr, if_neg (by omega), readByte]

/-- Settles O22. -/
theorem unselectedEngineHasNoEffect : Obligations.UnselectedEngineHasNoEffect := by
  intro i W s width unselected
  obtain ⟨pack, -, runs⟩ := exec_of_engineWidth width
  rw [runs, engineOp_of_unselected unselected]

theorem engineWrite_of_lane_out_of_range {W : Nat} {s : State} {l : Fin 8} (large : 2 ^ W ≤ (s.inReg[l]).toNat)
    (pack : Slots → List Byte) : engineWrite W pack s = .violate .pvRange :=
  if_pos (Bool.eq_false_iff.mpr fun fit => Nat.not_lt.mpr large (lanesFit_iff.mp fit l))

theorem engineWrite_of_window_outside {W : Nat} {s : State} (fit : lanesFit W s.inReg = true)
    (outside : s.params.slabSize < s.slabPos + W) (pack : Slots → List Byte) :
    engineWrite W pack s = .violate .packWindow := by
  rw [engineWrite, fit, if_neg Bool.false_ne_true.symm, if_pos outside]

/-- Settles O23: the two preconditions of the engine's write, in the order it tests them. -/
theorem selectedEngineFaultsOutsideItsContract : Obligations.SelectedEngineFaultsOutsideItsContract := by
  intro i W s width selected
  obtain ⟨pack, -, runs⟩ := exec_of_engineWidth width
  rw [runs, engineOp_of_selected selected]
  refine ⟨fun l large => ?_, fun fit outside => ?_⟩
  · rw [engineWrite_of_lane_out_of_range large, Micro.silent_violate]
  · rw [engineWrite_of_window_outside fit outside, Micro.silent_violate]

/-- With a grant and a select value that names no engine, the step faults, and so does the arbiter (log 7). -/
theorem step_of_no_engine {s : State} (legal : s.params.legal = true) (granted : s.grant = true)
    (outside : s.bw.toNat = 0 ∨ 33 ≤ s.bw.toNat) : step s = .fault .noEngine := by
  simp [step, legal, fetch, granted, fetchSelect, decodeSelect_out_of_range outside]

theorem arbiterWrite_of_no_engine {s : State} (outside : s.bw.toNat = 0 ∨ 33 ≤ s.bw.toNat) :
    arbiterWrite s = .violate .noEngine := by
  have none : engineOf s.width = none := ((selectNamesEngineOfItsNumber s.bw).2 outside).2
  rw [arbiterWrite, none]

/-- Settles O9: a select value names an engine, which is then the selected one, or the step and the arbiter fault. -/
theorem stepRunsSelectedEngine : Obligations.StepRunsSelectedEngine := by
  intro s legal granted
  refine ⟨fun i => step_of_select legal granted, ?_⟩
  by_cases range : 1 ≤ s.bw.toNat ∧ s.bw.toNat ≤ 32
  · obtain ⟨i, decoded⟩ := decodeSelect_of_range range.1 range.2
    have width := decodeSelect_engineWidth decoded
    rw [step_of_select legal granted decoded]
    exact exec_of_selected (s := { s with grant := false }) width
  · have outside : s.bw.toNat = 0 ∨ 33 ≤ s.bw.toNat := by omega
    rw [step_of_no_engine legal granted outside, arbiterWrite_of_no_engine (s := { s with grant := false }) outside,
      Micro.silent_violate]

end Sys2Proof.Machine
end

section
/-! SUPPORT. The two forms R101 to R132 give of each engine. The wires that a line of the wiring form sets side by side,
read as a 32-bit word, are the shifted and masked lanes that the shift and OR form joins by OR. -/

namespace Sys2Proof.Machine

/-! ## Wires as words -/

/-- Wires as a 32-bit word, `s` places up. -/
def wordOfWires (s : Nat) {n : Nat} (x : BitVec n) : Slot :=
  x.setWidth 32 <<< s

/-- A byte keeps its number when its wires are read as a word. -/
theorem wordOfWires_zero_toNat (x : Byte) : (wordOfWires 0 x).toNat = x.toNat := by
  rw [wordOfWires, BitVec.shiftLeft_zero, BitVec.toNat_setWidth_of_le (by decide)]

/-- The wires from bit `h` to bit `l` of a lane: the lane shifted right by `l` and masked to their number. -/
theorem wordOfWires_extractLsb (s h l : Nat) (x : Slot) :
    wordOfWires s (x.extractLsb h l) = (x >>> l &&& BitVec.ofNat 32 (2 ^ (h - l + 1) - 1)) <<< s := by
  have masked : (x.extractLsb h l).setWidth 32 = x >>> l &&& BitVec.ofNat 32 (2 ^ (h - l + 1) - 1) := by
    ext b hb
    have ones : (BitVec.ofNat 32 (2 ^ (h - l + 1) - 1))[b] = decide (b < h - l + 1) := by
      rw [← BitVec.getLsbD_eq_getElem, BitVec.getLsbD_ofNat, Nat.testBit_two_pow_sub_one, decide_eq_true hb,
        Bool.true_and]
    rw [BitVec.getElem_setWidth, BitVec.getLsbD_extractLsb, BitVec.getElem_and, BitVec.getElem_ushiftRight, ones,
      Bool.and_comm]
  rw [wordOfWires, masked]

/-- Wires side by side: the OR of the two words, the left one moved up by the number of the right wires. The width of the
whole is not looked at when the lemma is applied, as in `getLsbD_wires`. -/
theorem wordOfWires_append (s : Nat) {n m : Nat} (x : BitVec n) (y : BitVec m) :
    @wordOfWires s (no_index (n + m)) (x ++ y) = wordOfWires (m + s) x ||| wordOfWires s y := by
  have side_by_side : (x ++ y).setWidth 32 = x.setWidth 32 <<< m ||| y.setWidth 32 := by
    ext b hb
    by_cases right : b < m
    · simp [BitVec.getLsbD_append, right]
    · have above : y.getLsbD b = false := BitVec.getLsbD_of_ge y b (Nat.le_of_not_lt right)
      simp [BitVec.getLsbD_append, right, above]
  rw [wordOfWires, side_by_side, BitVec.shiftLeft_or_distrib, ← BitVec.shiftLeft_add, wordOfWires, wordOfWires]

/-! ## The bank -/

/-- Every width of 1 to 32 has a shift and OR form, as it has an engine (R90). -/
theorem shiftOrOf_isSome {W : Nat} (low : 1 ≤ W) (high : W ≤ 32) : ∃ shiftOr, shiftOrOf W = some shiftOr := by
  interval_cases W <;> exact ⟨_, rfl⟩

/-- The two forms of each of R101 to R132, line by line: first every wire of the wiring form becomes a shifted and masked
lane, then the shift amounts and masks computed from the wires are the ones the rule writes. -/
theorem shiftOrOf_eq_wordOfWires {W : Nat} {pack : Slots → List Byte} {shiftOr : Slots → List Slot}
    (engine : engineOf W = some pack) (form : shiftOrOf W = some shiftOr) (v : Slots) :
    shiftOr v = (pack v).map (wordOfWires 0) := by
  obtain ⟨low, high⟩ := engineOf_range engine
  interval_cases W <;> cases engine <;> cases form <;>
    simp only [pack8w1, pack8w2, pack8w3, pack8w4, pack8w5, pack8w6, pack8w7, pack8w8, pack8w9, pack8w10, pack8w11,
      pack8w12, pack8w13, pack8w14, pack8w15, pack8w16, pack8w17, pack8w18, pack8w19, pack8w20, pack8w21, pack8w22,
      pack8w23, pack8w24, pack8w25, pack8w26, pack8w27, pack8w28, pack8w29, pack8w30, pack8w31, pack8w32, List.map_cons,
      List.map_nil, wordOfWires_append, wordOfWires_extractLsb] <;>
    simp only [shiftOr8w1, shiftOr8w2, shiftOr8w3, shiftOr8w4, shiftOr8w5, shiftOr8w6, shiftOr8w7, shiftOr8w8,
      shiftOr8w9, shiftOr8w10, shiftOr8w11, shiftOr8w12, shiftOr8w13, shiftOr8w14, shiftOr8w15, shiftOr8w16, shiftOr8w17,
      shiftOr8w18, shiftOr8w19, shiftOr8w20, shiftOr8w21, shiftOr8w22, shiftOr8w23, shiftOr8w24, shiftOr8w25,
      shiftOr8w26, shiftOr8w27, shiftOr8w28, shiftOr8w29, shiftOr8w30, shiftOr8w31, shiftOr8w32,
      BitVec.ushiftRight_zero, BitVec.shiftLeft_zero, Nat.reduceAdd, Nat.reduceSub, Nat.reducePow, BitVec.ofNat_eq_ofNat]

/-- Settles O15: a line is the word of its wires, and that word has the number of the byte. -/
theorem shiftOrFormsEqualWiringForms : Obligations.ShiftOrFormsEqualWiringForms := by
  intro W low high
  obtain ⟨pack, engine⟩ := engineOf_isSome low high
  obtain ⟨shiftOr, form⟩ := shiftOrOf_isSome low high
  refine ⟨pack, shiftOr, engine, form, fun v => ?_⟩
  rw [shiftOrOf_eq_wordOfWires engine form, List.map_map]
  exact List.map_congr_left fun x _ => wordOfWires_zero_toNat x

end Sys2Proof.Machine
end

section
/-! SUPPORT. The slab allocator (spec/45_slab_allocator.md R140, R144): initialising a slab as the store of zeros it stands
for, and the number of frozen slabs as a quotient of the number of groups. -/

namespace Sys2Proof

/-- In a slab with room for one more group, fewer groups are packed than a slab holds. -/
theorem Params.groups_lt_gps {p : Params} {W sp : Nat} (positive : 0 < W) (room : sp + W ≤ p.slabSize) :
    sp / W < p.gps W :=
  calc sp / W
      < (sp + W) / W := by rw [Nat.add_div_right sp positive]; exact Nat.lt_succ_self _
    _ ≤ p.gps W := Nat.div_le_div_right room

end Sys2Proof

namespace Sys2Proof.Machine

/-! ## InitSlab (R140) -/

/-- The current slab, when it exists, lies in the store: it is the window of a whole slab from position 0 on. -/
theorem curBase_le_storeSize {s : State} (slab : s.frozenCnt < s.params.maxSlabs) :
    curBase s + s.params.slabSize ≤ s.params.storeSize :=
  groupAddr_le_storeSize (s := { s with slabPos := 0 }) (Nat.zero_add _).le slab

/-- The addresses of slab `k` are the `S` addresses from `k * S` on (R51). -/
theorem div_slabSize_eq_iff {S k x : Nat} (positive : 0 < S) : x / S = k ↔ k * S ≤ x ∧ x < k * S + S := by
  rw [Nat.div_eq_iff positive]
  omega

/-- Zero-filling a slab reads as storing a zero at each of its addresses (log 15). -/
theorem Memory.read_zeroSlab_eq_read_writeBytes {S : Nat} (positive : 0 < S) (m : Memory) (k x : Nat) :
    (m.zeroSlab S k).read S x = (m.writeBytes S (k * S) (List.replicate S 0)).read S x := by
  rw [Memory.read_zeroSlab, Memory.read_writeBytes, List.length_replicate]
  by_cases inSlab : x / S = k
  · obtain ⟨low, high⟩ := (div_slabSize_eq_iff positive).1 inSlab
    rw [if_pos inSlab, if_pos ⟨low, high⟩, List.getElem?_replicate_of_lt (by omega)]
  · rw [if_neg inSlab, if_neg fun window => inSlab ((div_slabSize_eq_iff positive).2 window)]

/-- Settles O25: the slab lies in the store, so both operations complete, and the two stores read alike. -/
theorem initSlabIsTheZeroFill : Obligations.InitSlabIsTheZeroFill := by
  intro s positive slab
  have inside := curBase_le_storeSize slab
  exact ⟨_, _, initSlab_of inside, memWrite_of (by rwa [List.length_replicate]), rfl,
    Memory.read_zeroSlab_eq_read_writeBytes positive s.mem s.frozenCnt⟩

/-! ## The number of frozen slabs (R144) -/

/-- Settles O49: the groups packed are `GPS(bw)` for each frozen slab and fewer than that in the current one, which in
phase Open has room for another. -/
theorem frozenCountFromTotalValues : Obligations.FrozenCountFromTotalValues := by
  intro s inv opened
  obtain ⟨⟨⟨positive, -⟩, -, -, total, -⟩, -, room, -⟩ :=
    openInv_iff.1 ((phaseInv_of_opened opened).1 (restInv_iff.1 inv).2)
  have current := Params.groups_lt_gps positive room
  have groups : s.totalValues.toNat / 8 = s.frozenCnt * s.params.gps s.width + s.slabPos / s.width := by omega
  rw [groups]
  refine (Nat.div_eq_of_lt_le (Nat.le_add_right _ _) ?_).symm
  rw [Nat.succ_mul]
  exact Nat.add_lt_add_left current _

end Sys2Proof.Machine
end

section
/-! SUPPORT. WRITE and FINISH outside the trap (spec/46_encoder_commands.md R152 to R154). A completed group is one
store of the contract's bytes at the group position: `groupStored` is the state after it, and what comes next decides
only whether the slab goes on or rotates. -/

namespace Sys2Proof.Machine

/-! ## The slots -/

theorem getElem_set_slot {c : Nat} (hc : c < 8) (v : Slots) (x : BitVec 32) (l : Fin 8) :
    (v.set c x hc)[l] = if l.val = c then x else v[l] := by
  rw [Fin.getElem_fin, Vector.getElem_set hc l.isLt]
  exact if_congr eq_comm rfl rfl

theorem zeroFrom_getElem_fin (c : Nat) (v : Slots) (l : Fin 8) :
    (zeroFrom c v)[l] = if l.val < c then v[l] else 0 := by
  rw [Fin.getElem_fin, zeroFrom_getElem v l.isLt]
  by_cases waits : l.val < c
  · rw [if_pos waits, if_neg (Nat.not_le.mpr waits), Fin.getElem_fin]
  · rw [if_neg waits, if_pos (Nat.not_lt.mp waits)]

/-- The zero fill leaves only waiting values and zeros, so the lanes fit when the waiting values do (R154). -/
theorem lanesFit_zeroFrom {W c : Nat} {v : Slots} (fit : ∀ l : Fin 8, l.val < c → (v[l]).toNat < 2 ^ W) :
    lanesFit W (zeroFrom c v) = true := by
  refine lanesFit_iff.mpr fun l => ?_
  rw [zeroFrom_getElem_fin]
  split
  next waiting => exact fit l waiting
  next => exact Nat.two_pow_pos W

theorem inCnt_succ_eq_ofNat (c : BitVec 4) : c + 1 = BitVec.ofNat 4 (c.toNat + 1) := by
  rw [BitVec.ofNat_add, BitVec.ofNat_toNat, BitVec.setWidth_eq]
  rfl

/-! ## The stored group -/

/-- The state after the group-pack step of `c` values in the slots `v` (R153). -/
def groupStored (c : Nat) (v : Slots) (s : State) : State :=
  { s with inReg := v, mem := s.mem.writeBytes s.params.slabSize (groupAddr s) (packGeneric s.width v),
           slabPos := s.slabPos + s.width, totalValues := s.totalValues + BitVec.ofNat 64 c, inCnt := 0 }

/-- The group-pack step inside the packer's contract: a legal width, lanes that fit, room in a slab that exists. -/
theorem packGroup_of_contract {s : State} (c : Nat) (low : 1 ≤ s.width) (high : s.width ≤ 32)
    (fit : lanesFit s.width s.inReg = true) (room : s.slabPos + s.width ≤ s.params.slabSize)
    (slab : s.frozenCnt < s.params.maxSlabs) : packGroup c s = .ok (groupStored c s.inReg s) := by
  obtain ⟨pack, engine⟩ := engineOf_isSome low high
  rw [packGroup_of engine fit room (groupAddr_le_storeSize room slab), engineOf_eq_packGeneric engine]
  rfl

theorem Memory.read_group_inside {S a W k : Nat} (m : Memory) (v : Slots) (hk : k < W) :
    (m.writeBytes S a (packGeneric W v)).read S (a + k) = (packGeneric W v)[k]? := by
  rw [Memory.read_writeBytes, packGeneric_length, if_pos (by omega), Nat.add_sub_cancel_left]

theorem Memory.read_group_outside {S a W x : Nat} (m : Memory) (v : Slots) (outside : x < a ∨ a + W ≤ x) :
    (m.writeBytes S a (packGeneric W v)).read S x = m.read S x := by
  rw [Memory.read_writeBytes, packGeneric_length, if_neg (by omega)]

/-! ## WRITE -/

/-- A WRITE that does not fill the input register (R152). -/
theorem execWrite_of_slot {s : State} {v : BitVec 32} (opened : s.phase = .opened) (fits : v.toNat < 2 ^ s.width)
    (hc : s.inCnt.toNat < 8) (notLast : s.inCnt.toNat ≠ 7) :
    execWrite v s = .next { s with inReg := s.inReg.set s.inCnt.toNat v hc, inCnt := s.inCnt + 1,
                                   responses := s.responses ++ [.done] } := by
  rw [execWrite_of opened fits hc, if_neg notLast, Micro.respond_ok]

/-- The WRITE of `v` is legal and completes a group, which the packer's contract admits (R152, R153). -/
structure CompletesGroup (v : BitVec 32) (s : State) : Prop where
  opened : s.phase = .opened
  fits : v.toNat < 2 ^ s.width
  last : s.inCnt = 7
  low : 1 ≤ s.width
  high : s.width ≤ 32
  waiting : ∀ l : Fin 8, l.val < 7 → (s.inReg[l]).toNat < 2 ^ s.width
  room : s.slabPos + s.width ≤ s.params.slabSize
  slab : s.frozenCnt < s.params.maxSlabs

/-- The state after the group-pack step of the WRITE that completes a group. -/
def eighthStored (v : BitVec 32) (s : State) : State := groupStored 8 (s.inReg.set 7 v) s

section
variable {v : BitVec 32} {s : State}

theorem execWrite_of_completesGroup (h : CompletesGroup v s) :
    execWrite v s =
      (if slabFull (eighthStored v s) then rotate (eighthStored v s) else .ok (eighthStored v s)).respond
        fun _ => .done := by
  have last : s.inCnt.toNat = 7 := congrArg BitVec.toNat h.last
  have hc : s.inCnt.toNat < 8 := by omega
  have full : s.inReg.set s.inCnt.toNat v hc = s.inReg.set 7 v := by simp only [last]
  have fit : lanesFit s.width (s.inReg.set 7 v) = true :=
    lanesFit_iff.mpr fun l => set_slot_fits (by omega) h.fits h.waiting l l.isLt
  have packed := packGroup_of_contract (s := { s with inReg := s.inReg.set 7 v, inCnt := s.inCnt + 1 }) 8 h.low h.high
    fit h.room h.slab
  rw [execWrite_of h.opened h.fits hc, if_pos last, full, closeGroup, packed]
  rfl

/-- The eighth WRITE of a group when the slab keeps room for another (R141). -/
theorem execWrite_of_room (h : CompletesGroup v s) (more : s.slabPos + s.width + s.width ≤ s.params.slabSize) :
    execWrite v s = .next { eighthStored v s with responses := s.responses ++ [.done] } := by
  have notFull : slabFull (eighthStored v s) = false := decide_eq_false (Nat.not_lt.mpr more)
  rw [execWrite_of_completesGroup h, notFull]
  rfl

/-- The eighth WRITE of a group that fills the slab while a free one is left (R142). -/
theorem execWrite_of_rotation (h : CompletesGroup v s) (full : s.params.slabSize < s.slabPos + s.width + s.width)
    (free : s.frozenCnt + 1 < s.params.maxSlabs) :
    execWrite v s =
      .next { eighthStored v s with
        frozenCnt := s.frozenCnt + 1, slabPos := 0, responses := s.responses ++ [.done]
        mem := (eighthStored v s).mem.zeroSlab s.params.slabSize (s.frozenCnt + 1) } := by
  have isFull : slabFull (eighthStored v s) = true := decide_eq_true full
  rw [execWrite_of_completesGroup h, isFull, if_pos rfl, rotate_of (s := eighthStored v s) free]
  rfl

/-- The eighth WRITE of a group that fills the last slab: the trap, without a response (R143, R175). -/
theorem execWrite_of_noFreeSlab (h : CompletesGroup v s) (full : s.params.slabSize < s.slabPos + s.width + s.width)
    (lastSlab : s.frozenCnt + 1 = s.params.maxSlabs) :
    execWrite v s = .next { eighthStored v s with phase := .faulted, err := .noMem } := by
  have isFull : slabFull (eighthStored v s) = true := decide_eq_true full
  rw [execWrite_of_completesGroup h, isFull, if_pos rfl, rotate_of_noFreeSlab (s := eighthStored v s) lastSlab]
  rfl

end

/-- Settles O28. -/
theorem writeFillsOneSlot : Obligations.WriteFillsOneSlot := by
  intro s v opened fits notFull
  have hc : s.inCnt.toNat < 8 := by omega
  exact ⟨_, execWrite_of_slot opened fits hc notFull.ne, by rw [inCnt_succ_eq_ofNat], getElem_set_slot hc s.inReg v⟩

/-- Settles O29: the group-pack step stores the group, and nothing follows it. -/
theorem writePacksFullGroup : Obligations.WritePacksFullGroup := by
  intro s v opened fits last low high waiting more slab
  have completes : CompletesGroup v s := ⟨opened, fits, last, low, high, waiting, by omega, slab⟩
  exact ⟨_, execWrite_of_room completes more, rfl, getElem_set_slot (by decide) s.inReg v,
    fun k => Memory.read_group_inside s.mem _, fun a => Memory.read_group_outside s.mem _⟩

/-- Settles O30: the group is stored in the slab being frozen, and the zero fill is of the slab after it. -/
theorem writeRotatesFullSlab : Obligations.WriteRotatesFullSlab := by
  intro s v opened fits last low high waiting room full free
  have completes : CompletesGroup v s := ⟨opened, fits, last, low, high, waiting, room, by omega⟩
  have positive : 0 < s.params.slabSize := by omega
  refine ⟨_, execWrite_of_rotation completes full free, rfl, getElem_set_slot (by decide) s.inReg v, fun k hk => ?_,
    fun o ho => ?_, fun a elsewhere otherSlab => ?_⟩
  · have inGroup : curBase s + s.slabPos + k < s.frozenCnt * s.params.slabSize + (s.slabPos + s.width) := by
      rw [curBase_eq]
      omega
    exact (Memory.read_zeroSlab_succ_below _ room inGroup).trans (Memory.read_group_inside s.mem _ hk)
  · have inSlab : slabAddr s (s.frozenCnt + 1) o / s.params.slabSize = s.frozenCnt + 1 :=
      (div_slabSize_eq_iff positive).mpr ⟨Nat.le_add_right _ _, Nat.add_lt_add_left ho _⟩
    exact (Memory.read_zeroSlab _ _ _ _).trans (if_pos inSlab)
  · have notInSlab : a / s.params.slabSize ≠ s.frozenCnt + 1 := fun inSlab => by
      obtain ⟨above, below⟩ := (div_slabSize_eq_iff positive).mp inSlab
      rw [slabAddr, slabAddr, Nat.succ_mul (s.frozenCnt + 1)] at otherSlab
      omega
    exact ((Memory.read_zeroSlab _ _ _ _).trans (if_neg notInSlab)).trans (Memory.read_group_outside s.mem _ elsewhere)

/-- Settles O32: the two preconditions of WRITE in the order it tests them; 32 bits hold every value of width 32. -/
theorem writeViolations : Obligations.WriteViolations := by
  refine fun s v => ⟨fun notOpened => if_pos notOpened, fun opened large => ?_, fun width => ?_⟩
  · have unfit : valueFits v s = false := decide_eq_false large.not_gt
    exact (if_neg (not_not.mpr opened)).trans (if_pos unfit)
  · rw [width]
    exact v.isLt

/-! ## FINISH -/

/-- FINISH with no value waiting packs nothing (R154). -/
theorem execFinish_of_empty {s : State} (opened : s.phase = .opened) (empty : s.inCnt = 0) :
    execFinish s =
      .next { s with tailLen := s.slabPos, outIdx := 0, phase := .finalized,
                     responses := s.responses ++
                       [.size (BitVec.ofNat 64 (s.frozenCnt * s.params.fill s.width + s.slabPos))] } := by
  have tail : s.slabPos + ceil8 (s.inCnt.toNat * s.width) = s.slabPos := by simp [empty, ceil8]
  have nothing : flush s.inCnt.toNat s = .ok s := if_neg (by simp [empty])
  rw [execFinish, if_neg (not_not.mpr opened), nothing, Micro.bind_ok, Micro.respond_ok, tail]
  rfl

/-- FINISH with values waiting packs the zero-filled register as one group and cuts the tail after them (R154). -/
theorem execFinish_of_waiting {s : State} (opened : s.phase = .opened) (waits : 0 < s.inCnt.toNat) (low : 1 ≤ s.width)
    (high : s.width ≤ 32) (fit : ∀ l : Fin 8, l.val < s.inCnt.toNat → (s.inReg[l]).toNat < 2 ^ s.width)
    (room : s.slabPos + s.width ≤ s.params.slabSize) (slab : s.frozenCnt < s.params.maxSlabs) :
    execFinish s =
      .next { groupStored s.inCnt.toNat (zeroFrom s.inCnt.toNat s.inReg) s with
        phase := .finalized, tailLen := s.slabPos + ceil8 (s.inCnt.toNat * s.width), outIdx := 0
        responses := s.responses ++ [.size (BitVec.ofNat 64 (s.frozenCnt * s.params.fill s.width +
          (s.slabPos + ceil8 (s.inCnt.toNat * s.width))))] } := by
  have packed := packGroup_of_contract (s := { s with inReg := zeroFrom s.inCnt.toNat s.inReg }) s.inCnt.toNat low high
    (lanesFit_zeroFrom fit) room slab
  rw [execFinish, if_neg (not_not.mpr opened), flush, if_pos waits, packed]
  rfl

/-- Settles O33. -/
theorem finishWithEmptyRegister : Obligations.FinishWithEmptyRegister := fun _ => execFinish_of_empty

/-- Settles O34: the flush stores one group, whose lanes from `in_cnt` on are zero. -/
theorem finishFlushesWaitingValues : Obligations.FinishFlushesWaitingValues := by
  intro s opened waits _ low high fit room slab
  exact ⟨_, execFinish_of_waiting opened waits low high fit room slab, rfl, zeroFrom_getElem_fin _ s.inReg,
    fun k => Memory.read_group_inside s.mem _, fun a => Memory.read_group_outside s.mem _⟩

theorem execFinish_of_not_opened {s : State} (notOpened : s.phase ≠ .opened) : execFinish s = .fault .pvPhase :=
  if_pos notOpened

/-- Settles O35: a FINISH that completes leaves phase Finalized, where the next one is not legal. -/
theorem finishOutsideOpenFaults : Obligations.FinishOutsideOpenFaults := by
  refine ⟨fun s => execFinish_of_not_opened, fun s t finished => execFinish_of_not_opened ?_⟩
  obtain ⟨-, u, -, rfl⟩ := execFinish_eq_next finished
  exact Phase.noConfusion

end Sys2Proof.Machine
end

section
/-! SUPPORT. The bounds on the counters (spec/46_encoder_commands.md R160), the sizes a session reports (R157, R158,
R161 L1), the phase after each command (R159), and the step of a decoded command (R150). -/

namespace Sys2Proof.Machine

/-! ## The counters -/

/-- The bytes of full slabs and of the current one are those of whole slabs at most (R7, R50). -/
theorem packedBytes_le {p : Params} {W f sp : Nat} (slab : f < p.maxSlabs) (inside : sp ≤ p.fill W) :
    f * p.fill W + sp ≤ p.gps W * p.maxSlabs * W :=
  calc f * p.fill W + sp
      ≤ (f + 1) * p.fill W := by rw [Nat.succ_mul]; omega
    _ ≤ p.maxSlabs * p.fill W := Nat.mul_le_mul_right _ slab
    _ = p.gps W * p.maxSlabs * W := by rw [Params.fill]; ring

theorem storeGroups_mul_width_le (p : Params) (W : Nat) : p.gps W * p.maxSlabs * W ≤ p.slabSize * p.maxSlabs :=
  calc p.gps W * p.maxSlabs * W
      = p.fill W * p.maxSlabs := by rw [Params.fill]; ring
    _ ≤ p.slabSize * p.maxSlabs := Nat.mul_le_mul_right _ (p.fill_le_slabSize W)

/-- What the phases of a session have in common: the counters count groups of the store and bytes of a slab. -/
structure SessionBounds (s : State) : Prop where
  low : 1 ≤ s.width
  slab : s.frozenCnt < s.params.maxSlabs
  register : s.inCnt.toNat ≤ 7
  position : s.slabPos ≤ s.params.fill s.width
  tail : s.tailLen ≤ s.slabPos
  values : s.totalValues.toNat ≤ 8 * (s.params.gps s.width * s.params.maxSlabs)

/-- In phase Open the packed groups are those of the frozen slabs and those before the position. -/
theorem openInv.bounds {s : State} (inv : openInv s) : SessionBounds s := by
  obtain ⟨⟨⟨low, -, aligned, slab, -⟩, -, inside, total, tail, -⟩, register, -, -⟩ := openInv_iff.mp inv
  have position := Params.le_fill aligned inside
  have groups : (s.frozenCnt * s.params.gps s.width + s.slabPos / s.width) * s.width ≤
      s.params.gps s.width * s.params.maxSlabs * s.width := by
    rw [groups_mul_width aligned]
    exact packedBytes_le slab position
  refine ⟨low, slab, register, position, tail ▸ Nat.zero_le _, ?_⟩
  rw [total]
  exact Nat.mul_le_mul_left 8 (Nat.le_of_mul_le_mul_right groups low)

/-- In phase Finalized the byte sequence, which holds all the values, lies in the store. -/
theorem finalInv.bounds {s : State} (inv : finalInv s) : SessionBounds s := by
  obtain ⟨⟨low, -, -, slab, -⟩, -, empty, position, tail, -, size⟩ := inv
  have bytes := packedBytes_le slab (tail.trans position)
  have values : s.totalValues.toNat * s.width ≤ 8 * (s.params.gps s.width * s.params.maxSlabs) * s.width := by
    have bits : s.totalValues.toNat * s.width ≤ 8 * outLen s := by rw [size, ceil8]; omega
    rw [Nat.mul_assoc 8]
    exact bits.trans (Nat.mul_le_mul_left 8 bytes)
  exact ⟨low, slab, by simp [empty], position, tail, Nat.le_of_mul_le_mul_right values low⟩

/-- In phase Fault the store is full of groups. -/
theorem faultInv.bounds {s : State} (inv : faultInv s) : SessionBounds s := by
  obtain ⟨⟨low, -, -, slab, -⟩, -, empty, position, -, total, tail, -⟩ := inv
  refine ⟨low, slab, by simp [empty], position.le, tail ▸ Nat.zero_le _, ?_⟩
  rw [total, Nat.mul_comm s.params.maxSlabs]

theorem restInv.bounds {s : State} (inv : restInv s) (session : s.phase ≠ .fresh) : SessionBounds s := by
  obtain ⟨-, inPhase⟩ := restInv_iff.mp inv
  cases phase : s.phase with
  | fresh => exact absurd phase session
  | opened => exact ((phaseInv_of_opened phase).mp inPhase).bounds
  | finalized => exact ((phaseInv_of_finalized phase).mp inPhase).bounds
  | faulted => exact ((phaseInv_of_faulted phase).mp inPhase).bounds

section
variable {s : State}

theorem SessionBounds.outLen_le (h : SessionBounds s) : outLen s ≤ s.params.slabSize * s.params.maxSlabs :=
  (packedBytes_le h.slab (h.tail.trans h.position)).trans (storeGroups_mul_width_le _ _)

theorem SessionBounds.values_mul_width_le (h : SessionBounds s) :
    s.totalValues.toNat * s.width ≤ 8 * (s.params.slabSize * s.params.maxSlabs) :=
  calc s.totalValues.toNat * s.width
      ≤ 8 * (s.params.gps s.width * s.params.maxSlabs) * s.width := Nat.mul_le_mul_right _ h.values
    _ ≤ 8 * (s.params.slabSize * s.params.maxSlabs) := by
      rw [Nat.mul_assoc 8]
      exact Nat.mul_le_mul_left 8 (storeGroups_mul_width_le _ _)

theorem SessionBounds.allocatedSize_le (h : SessionBounds s) :
    allocatedSize s ≤ s.params.slabSize * s.params.maxSlabs + 32 :=
  calc allocatedSize s
      = s.params.slabSize * (s.frozenCnt + 1) + 32 := by
        rw [allocatedSize, inputRegisterBytes, Nat.mul_succ, Nat.mul_comm s.frozenCnt]
    _ ≤ s.params.slabSize * s.params.maxSlabs + 32 := Nat.add_le_add_right (Nat.mul_le_mul_left _ h.slab) 32

/-- The reported size does not wrap (R160). -/
theorem SessionBounds.reportedSize_lt (h : SessionBounds s) (small : s.params.slabSize * s.params.maxSlabs < 2 ^ 60) :
    reportedSize s < 2 ^ 64 := by
  have bits := h.values_mul_width_le
  rw [reportedSize, ceil8]
  omega

end

/-- Settles O48: every bound follows from those of the session and R6's bound on the store. -/
theorem countersNeverWrap : Obligations.CountersNeverWrap := by
  intro s inv session
  have bounds := inv.bounds session
  obtain ⟨-, -, small⟩ := (restInv_iff.mp inv).1.bounds
  have fill := s.params.fill_le_slabSize s.width
  exact ⟨bounds.register.trans (by decide), bounds.position, fill, Nat.lt_log2_self,
    (bounds.tail.trans bounds.position).trans fill, Nat.le_sub_one_of_lt bounds.slab,
    by rw [Nat.mul_assoc]; exact bounds.values, by rw [Nat.mul_assoc]; exact bounds.values_mul_width_le,
    by rw [Nat.mul_assoc]; omega, bounds.outLen_le, small, bounds.allocatedSize_le⟩

/-! ## The reported sizes -/

section
variable {s : State}

theorem execRsize_of_live (live : sessionLive s = true) :
    execRsize s = .next { s with responses := s.responses ++ [.size (BitVec.ofNat 64 (reportedSize s))] } := by
  rw [execRsize, live, if_neg Bool.noConfusion, Micro.respond_ok]

theorem execAsize_of_live (live : sessionLive s = true) :
    execAsize s = .next { s with responses := s.responses ++ [.size (BitVec.ofNat 64 (allocatedSize s))] } := by
  rw [execAsize, live, if_neg Bool.noConfusion, Micro.respond_ok]

theorem sessionLive_eq_false (noSession : s.phase = .fresh ∨ s.phase = .faulted) : sessionLive s = false := by
  rcases noSession with phase | phase <;> simp [sessionLive, phase]

theorem phase_ne_fresh_of_live (live : s.phase = .opened ∨ s.phase = .finalized) : s.phase ≠ .fresh := by
  rcases live with phase | phase <;> simp [phase]

end

/-- Settles O40. -/
theorem rsizeAnswersReportedSize : Obligations.RsizeAnswersReportedSize := by
  refine fun s => ⟨fun live => ?_, fun noSession => if_pos (sessionLive_eq_false noSession)⟩
  refine ⟨_, execRsize_of_live (sessionLive_iff.mpr live), rfl, fun inv => ?_⟩
  obtain ⟨-, -, small⟩ := (restInv_iff.mp inv).1.bounds
  have bound := (inv.bounds (phase_ne_fresh_of_live live)).reportedSize_lt small
  exact (BitVec.toNat_ofNat _ _).trans (Nat.mod_eq_of_lt bound)

/-- Settles O41. -/
theorem asizeAnswersAllocatedSize : Obligations.AsizeAnswersAllocatedSize := by
  refine fun s => ⟨fun live => ?_, fun noSession => if_pos (sessionLive_eq_false noSession)⟩
  refine ⟨_, execAsize_of_live (sessionLive_iff.mpr live), rfl, fun inv => ?_⟩
  obtain ⟨-, -, small⟩ := (restInv_iff.mp inv).1.bounds
  have bound := (inv.bounds (phase_ne_fresh_of_live live)).allocatedSize_le
  exact (BitVec.toNat_ofNat _ _).trans (Nat.mod_eq_of_lt (bound.trans_lt (by omega)))

/-- Settles O50: FINISH answers `OutLen`, and the invariant of phase Finalized, which it reaches, makes that the
reported size. -/
theorem finishSizeIsReportedSize : Obligations.FinishSizeIsReportedSize := by
  intro s t inv finished
  have inv' := execFinish_keeps_restInv inv finished
  obtain ⟨-, u, flushed, rfl⟩ := execFinish_eq_next finished
  obtain ⟨-, -, -, -, -, -, size⟩ := (phaseInv_of_finalized rfl).mp (restInv_iff.mp inv').2
  have responses : u.responses = s.responses := by
    rcases flush_eq_ok flushed with ⟨-, rfl⟩ | ⟨-, pack, -, -, -, -, rfl⟩ <;> rfl
  refine ⟨size, by rw [responses]; rfl, ?_⟩
  rw [size]
  exact execRsize_of_live rfl

/-! ## The phase (R159) -/

/-- A WRITE answers from phase Open, and leaves it only by the trap. -/
theorem execWrite_phase {s t : State} {v : BitVec 32} (h : execWrite v s = .next t) :
    s.phase = .opened ∧ (t.phase = .opened ∨ t.phase = .faulted) := by
  obtain ⟨opened, -, hc, ⟨-, rfl⟩ | ⟨-, u, packed, rest⟩⟩ := execWrite_eq_next h
  · exact ⟨opened, .inl opened⟩
  · have kept : u.phase = .opened := by
      obtain ⟨pack, -, -, -, -, rfl⟩ := packGroup_eq_ok packed
      exact opened
    rcases rest with ⟨-, rfl⟩ | ⟨-, -, -, rfl⟩ | ⟨-, -, rfl⟩
    · exact ⟨opened, .inl kept⟩
    · exact ⟨opened, .inl kept⟩
    · exact ⟨opened, .inr rfl⟩

theorem exec_keeps_phase_of_engine {i : Instr} {W : Nat} {s t : State} (width : i.engineWidth = some W)
    (h : exec i s = .next t) : t.phase = s.phase := by
  obtain ⟨pack, -, runs⟩ := exec_of_engineWidth width
  rcases engineOp_eq_next ((runs s).symm.trans h) with ⟨-, rfl⟩ | ⟨-, -, -, -, rfl⟩ <;> rfl

/-- Settles O42: each command by what it does when it answers a next state. -/
theorem phaseTransitionTable : Obligations.PhaseTransitionTable := by
  intro s t i h
  cases i with
  | new w =>
    obtain ⟨-, -, rfl⟩ := execNew_eq_next h
    rfl
  | write v => exact execWrite_phase h
  | finish =>
    obtain ⟨opened, u, -, rfl⟩ := execFinish_eq_next h
    exact ⟨opened, rfl⟩
  | drain =>
    obtain ⟨final, -, b, -, rfl⟩ := execDrain_eq_next h
    exact ⟨final, final⟩
  | rsize =>
    obtain ⟨live, rfl⟩ := execRsize_eq_next h
    exact ⟨sessionLive_iff.mp live, rfl⟩
  | asize =>
    obtain ⟨live, rfl⟩ := execAsize_eq_next h
    exact ⟨sessionLive_iff.mp live, rfl⟩
  | _ => exact exec_keeps_phase_of_engine rfl h

/-- Settles O8. -/
theorem stepRunsDecodedCommand : Obligations.StepRunsDecodedCommand :=
  fun _ _ _ _ legal noGrant presented decoded _ => step_of_command legal noGrant presented decoded

end Sys2Proof.Machine
end

section
/-! SUPPORT. The output multiplexer and DRAIN (spec/46_encoder_commands.md R155, R156): the byte sequence as the slabs
in order, what it depends on, and its delivery byte by byte. -/

namespace Sys2Proof.Machine

/-! ## The byte sequence (R155) -/

/-- A list over the first `f` blocks of `F` indices and `T` indices more. -/
theorem map_range_blocks {α : Type} (g : Nat → α) (f F T : Nat) :
    (List.range (f * F + T)).map g =
      (List.range f).flatMap (fun k => (List.range F).map fun o => g (k * F + o)) ++
        (List.range T).map fun o => g (f * F + o) := by
  have blocks : (List.range (f * F)).map g =
      (List.range f).flatMap fun k => (List.range F).map fun o => g (k * F + o) := by
    induction f with
    | zero => rw [Nat.zero_mul]; rfl
    | succ f ih =>
      rw [Nat.succ_mul, List.range_add, List.map_append, ih, List.range_succ, List.flatMap_append, List.map_map,
        List.flatMap_singleton]
      rfl
  rw [List.range_add, List.map_append, blocks, List.map_map]
  rfl

/-- Offset `o` of frozen slab `k` is where the multiplexer finds byte `k * FILL(bw) + o`. -/
theorem outAddr_frozen {s : State} {k o : Nat} (hk : k < s.frozenCnt) (ho : o < fillOf s) :
    outAddr s (k * fillOf s + o) = slabAddr s k o := by
  have slab : (k * fillOf s + o) / fillOf s = k := (div_slabSize_eq_iff (by omega)).mpr (by omega)
  rw [outAddr, slab, if_pos hk, Nat.mul_comm, Nat.mul_add_mod, Nat.mod_eq_of_lt ho]

/-- After the frozen slabs' bytes the multiplexer goes through the current slab. -/
theorem outAddr_current {s : State} (positive : 0 < fillOf s) (o : Nat) :
    outAddr s (s.frozenCnt * fillOf s + o) = slabAddr s s.frozenCnt o := by
  have past : ¬ (s.frozenCnt * fillOf s + o) / fillOf s < s.frozenCnt := by
    rw [Nat.div_lt_iff_lt_mul positive]
    omega
  rw [outAddr, if_neg past, Nat.add_sub_cancel_left]

theorem fillOf_pos {s : State} (low : 1 ≤ s.width) (fits : s.width ≤ s.params.slabSize) : 0 < fillOf s :=
  Nat.mul_pos (Nat.div_pos fits low) low

/-- Settles O37: the blocks of the index range are the frozen slabs. -/
theorem outSeqConcatenatesSlabs : Obligations.OutSeqConcatenatesSlabs := by
  intro s low fits
  rw [outSeq, outLen_eq, map_range_blocks]
  congr 1
  · refine List.flatMap_congr fun k hk => List.map_congr_left fun o ho => ?_
    rw [outAddr_frozen (List.mem_range.mp hk) (List.mem_range.mp ho)]
  · exact List.map_congr_left fun o _ => by rw [outAddr_current (fillOf_pos low fits)]

/-- The byte sequence reads the slab store, the width and the counters of slabs and tail, and nothing else. -/
theorem outSeq_congr {s t : State} (params : t.params = s.params) (bw : t.bw = s.bw)
    (frozen : t.frozenCnt = s.frozenCnt) (tail : t.tailLen = s.tailLen) (mem : t.mem = s.mem) :
    outSeq t = outSeq s := by
  cases s
  cases t
  cases params
  cases bw
  cases frozen
  cases tail
  cases mem
  rfl

/-- Settles O38: the commands legal in phase Finalized move the index and answer. -/
theorem outputIsFixedUntilNew : Obligations.OutputIsFixedUntilNew := by
  intro s t i final command notNew h
  cases i with
  | new w => exact absurd rfl (notNew w)
  | write v => exact absurd ((execWrite_phase h).1.symm.trans final) Phase.noConfusion
  | finish => exact absurd ((execFinish_eq_next h).1.symm.trans final) Phase.noConfusion
  | drain =>
    obtain ⟨-, -, b, -, rfl⟩ := execDrain_eq_next h
    exact ⟨outSeq_congr rfl rfl rfl rfl rfl, final⟩
  | rsize =>
    obtain ⟨-, rfl⟩ := execRsize_eq_next h
    exact ⟨outSeq_congr rfl rfl rfl rfl rfl, final⟩
  | asize =>
    obtain ⟨-, rfl⟩ := execAsize_eq_next h
    exact ⟨outSeq_congr rfl rfl rfl rfl rfl, final⟩
  | _ => cases command

theorem outSeq_getElem? {s : State} {i : Nat} (hi : i < outLen s) :
    (outSeq s)[i]? = some (readByte s (outAddr s i)) := by
  rw [outSeq, List.getElem?_map, List.getElem?_range hi, Option.map_some]

/-- Under the invariant every byte of the byte sequence lies in an initialised slab, so it has a value (R61, R155). -/
theorem outByte_of_final {s : State} {i : Nat} (inv : restInv s) (final : s.phase = .finalized) (hi : i < outLen s) :
    ∃ b, outByte s i = .ok b ∧ readByte s (outAddr s i) = some b := by
  obtain ⟨store, inPhase⟩ := restInv_iff.mp inv
  have finalized := (phaseInv_of_finalized final).mp inPhase
  have inUse := outAddr_in_use store finalized hi
  obtain ⟨⟨-, -, -, slab, zeroed⟩, -⟩ := finalized
  obtain ⟨large, -, -⟩ := store.bounds
  obtain ⟨b, byte⟩ := Memory.read_isSome (zeroed _ (Nat.lt_succ_of_le inUse))
  have inside : outAddr s i < s.params.storeSize := (Nat.div_lt_iff_lt_mul (by omega)).mp (inUse.trans_lt slab)
  exact ⟨b, memReadByte_eq_ok.mpr ⟨inside, byte⟩, byte⟩

theorem exists_outSeq_eq_map_some {s : State} (inv : restInv s) (final : s.phase = .finalized) :
    ∃ bs : List Byte, outSeq s = bs.map some := by
  refine ⟨(List.range (outLen s)).map fun i => (readByte s (outAddr s i)).getD 0, ?_⟩
  rw [outSeq, List.map_map]
  refine List.map_congr_left fun i hi => ?_
  obtain ⟨b, -, byte⟩ := outByte_of_final inv final (List.mem_range.mp hi)
  simp [byte]

/-! ## DRAIN (R156) -/

theorem execDrain_of_not_final {s : State} (notFinal : s.phase ≠ .finalized) : execDrain s = .fault .pvPhase :=
  if_pos notFinal

theorem execDrain_of_end {s : State} (final : s.phase = .finalized) (atEnd : outLen s ≤ s.outIdx.toNat) :
    execDrain s = .fault .pvDrain :=
  (if_neg (not_not.mpr final)).trans (if_pos atEnd)

theorem execDrain_of {s : State} {b : Byte} (final : s.phase = .finalized) (left : s.outIdx.toNat < outLen s)
    (byte : outByte s s.outIdx.toNat = .ok b) :
    execDrain s = .next { s with outIdx := s.outIdx + 1, responses := s.responses ++
                                   [.byte b (decide (s.outIdx.toNat + 1 = outLen s))] } := by
  rw [execDrain, if_neg (not_not.mpr final), if_neg (Nat.not_le.mpr left), byte]
  rfl

/-- Settles O36. -/
theorem drainDeliversNextByte : Obligations.DrainDeliversNextByte := by
  refine fun s => ⟨execDrain_of_not_final, execDrain_of_end, fun inv final left => ?_⟩
  obtain ⟨b, byte, read⟩ := outByte_of_final inv final left
  have next : s.outIdx + 1 = BitVec.ofNat 64 (s.outIdx.toNat + 1) := by
    rw [BitVec.ofNat_add, BitVec.ofNat_toNat, BitVec.setWidth_eq]
    rfl
  refine ⟨b, by rw [outSeq_getElem? left, read], ?_⟩
  rw [← next]
  exact execDrain_of final left byte

/-! ## Runs -/

/-- A run that goes well takes a first step and goes on from there. -/
theorem run_succ_eq_next {m : Nat} {s t : State} (h : Sys2Proof.core.run (m + 1) s = .next t) :
    ∃ u, step s = .next u ∧ Sys2Proof.core.run m u = .next t := by
  cases first : step s with
  | next u => exact ⟨u, rfl, (run_succ_of_next first).symm.trans h⟩
  | fault f => cases (run_succ_of_fault first).symm.trans h
  | refused r =>
    have e : Sys2Proof.core.step s = .refused r := first
    simp only [Host.Core.run, e] at h
    cases h

/-- A run goes on from the state it has reached. -/
theorem run_add_of_next {m : Nat} (n : Nat) {s t : State} (h : Sys2Proof.core.run m s = .next t) :
    Sys2Proof.core.run (m + n) s = Sys2Proof.core.run n t := by
  induction m generalizing s with
  | zero =>
    cases h
    rw [Nat.zero_add]
  | succ m ih =>
    obtain ⟨u, first, rest⟩ := run_succ_eq_next h
    rw [Nat.add_right_comm, run_succ_of_next first, ih rest]

theorem run_succ_of_last {m : Nat} {s t u : State} (h : Sys2Proof.core.run m s = .next t) (last : step t = .next u) :
    Sys2Proof.core.run (m + 1) s = .next u :=
  (run_add_of_next 1 h).trans (run_succ_of_next last)

/-- Every run keeps the invariant of the machine at rest. -/
theorem run_keeps_restInv {m : Nat} {s t : State} (inv : restInv s) (h : Sys2Proof.core.run m s = .next t) :
    restInv t := by
  induction m generalizing s with
  | zero => cases h; exact inv
  | succ m ih =>
    obtain ⟨u, first, rest⟩ := run_succ_eq_next h
    exact ih (stepKeepsInvariant s u inv first) rest

/-! ## The delivery of the byte sequence -/

/-- The responses to the DRAINs of the first `k` bytes of a byte sequence `bs`, `n` bytes long. -/
def drainResponses (n : Nat) (bs : List Byte) (k : Nat) : List Response :=
  (bs.take k).zipIdx.map fun p => .byte p.1 (decide (p.2 + 1 = n))

theorem drainResponses_succ {n k : Nat} {bs : List Byte} {b : Byte} (byte : bs[k]? = some b) :
    drainResponses n bs (k + 1) = drainResponses n bs k ++ [.byte b (decide (k + 1 = n))] := by
  obtain ⟨hk, rfl⟩ := List.getElem?_eq_some_iff.mp byte
  have count : (bs.take k).length = k := List.length_take_of_le hk.le
  rw [drainResponses, List.take_succ_eq_append_getElem hk, List.zipIdx_append, List.map_append, count]
  simp [drainResponses]

/-- The state after `k` DRAINs of the byte sequence `bs` from its first byte on. -/
def drained (s : State) (bs : List Byte) (k : Nat) : State :=
  { s with outIdx := BitVec.ofNat 64 k, cmds := s.cmds.drop k,
           responses := s.responses ++ drainResponses (outLen s) bs k }

section
variable {s : State} {bs : List Byte}

theorem drained_zero (start : s.outIdx = 0) : drained s bs 0 = s := by
  cases s
  cases start
  simp [drained, drainResponses]

/-- `out_idx` counts the bytes delivered without wrap (R160). -/
theorem outLen_lt_of_final (inv : restInv s) (final : s.phase = .finalized) : outLen s < 2 ^ 64 := by
  obtain ⟨-, -, small⟩ := (restInv_iff.mp inv).1.bounds
  have bound := (inv.bounds (by simp [final])).outLen_le
  omega

theorem decodeCommand_drain : decodeCommand (commandWord 6 0) = .ok .drain := decode_encode .drain

/-- The next DRAIN presented delivers the next byte. -/
theorem step_drained {k : Nat} (inv : restInv (drained s bs k)) (final : s.phase = .finalized)
    (noGrant : s.grant = false) (seq : outSeq s = bs.map some) (hk : k < outLen s) (small : outLen s < 2 ^ 64)
    (presented : s.cmds.drop k = commandWord 6 0 :: s.cmds.drop (k + 1)) :
    step (drained s bs k) = .next (drained s bs (k + 1)) := by
  have index : (BitVec.ofNat 64 k).toNat = k := (BitVec.toNat_ofNat _ _).trans (Nat.mod_eq_of_lt (by omega))
  obtain ⟨b, listed, drains⟩ :=
    (drainDeliversNextByte { drained s bs k with cmds := s.cmds.drop (k + 1) }).2.2 inv final (index.trans_lt hk)
  have sameSeq : outSeq { drained s bs k with cmds := s.cmds.drop (k + 1) } = bs.map some :=
    (outSeq_congr rfl rfl rfl rfl rfl).trans seq
  rw [sameSeq] at listed
  have byte : bs[k]? = some b := by simpa [drained, index] using listed
  rw [step_of_command inv.1 noGrant presented decodeCommand_drain, drains]
  simp [drained, index, drainResponses_succ byte, outLen_eq, fillOf, State.width]

/-- As many DRAINs as presented, up to the end of the byte sequence. -/
theorem run_drained (inv : restInv s) (final : s.phase = .finalized) (start : s.outIdx = 0) (noGrant : s.grant = false)
    (presented : s.cmds = List.replicate (outLen s + 1) (commandWord 6 0)) (seq : outSeq s = bs.map some) {k : Nat}
    (hk : k ≤ outLen s) : Sys2Proof.core.run k s = .next (drained s bs k) := by
  induction k with
  | zero => rw [drained_zero start]; rfl
  | succ k ih =>
    have so_far := ih (by omega)
    refine run_succ_of_last so_far (step_drained (run_keeps_restInv inv so_far) final noGrant seq hk
      (outLen_lt_of_final inv final) ?_)
    rw [presented, List.drop_replicate, List.drop_replicate, ← List.replicate_succ]
    congr 1
    omega

end

/-- Settles O39: after `OutLen` DRAINs every byte has been delivered, and the DRAIN left over finds none. -/
theorem drainsDeliverTheByteSequence : Obligations.DrainsDeliverTheByteSequence := by
  intro s inv final start noGrant presented
  obtain ⟨bs, seq⟩ := exists_outSeq_eq_map_some inv final
  have length : bs.length = outLen s := by
    rw [← List.length_map (f := some), ← seq, outSeq, List.length_map, List.length_range]
  have delivered := run_drained inv final start noGrant presented seq le_rfl
  refine ⟨⟨_, bs, delivered, seq, ?_⟩, ?_⟩
  · rw [drained, State.responses_mk, drainResponses, List.take_of_length_le length.le]
  · have one_left : (drained s bs (outLen s)).cmds = [commandWord 6 0] := by
      simp [drained, presented]
    have all_delivered : outLen s ≤ (BitVec.ofNat 64 (outLen s)).toNat := by
      rw [BitVec.toNat_ofNat, Nat.mod_eq_of_lt (outLen_lt_of_final inv final)]
    rw [run_add_of_next 1 delivered]
    refine run_succ_of_fault ?_
    rw [step_of_command (run_keeps_restInv inv delivered).1 noGrant one_left decodeCommand_drain]
    exact execDrain_of_end final all_delivered

end Sys2Proof.Machine
end

section
/-! SUPPORT. The closed form of a session's byte sequence (spec/46_encoder_commands.md R161 L0, L2, L3, L7): its packed
groups one after another, and the number they make, whose digits to the base `2 ^ W` are the values. -/

namespace Sys2Proof

theorem ceil8_le_iff {n k : Nat} : ceil8 n ≤ k ↔ n ≤ 8 * k := by
  unfold ceil8
  omega

theorem le_ceil8_of_le {n k : Nat} (h : 8 * k ≤ n) : k ≤ ceil8 n := by
  unfold ceil8
  omega

/-- The bytes of `n` values: those of the whole groups, and those of the values left over. -/
theorem ceil8_mul_eq (n W : Nat) : ceil8 (n * W) = n / 8 * W + ceil8 (n % 8 * W) :=
  calc ceil8 (n * W)
      = ceil8 ((8 * (n / 8) + n % 8) * W) := by rw [Nat.div_add_mod]
    _ = n / 8 * W + ceil8 (n % 8 * W) := by rw [Nat.add_mul, Nat.mul_assoc, ceil8_add]

end Sys2Proof

namespace Sys2Proof.Machine

/-! ## The groups one after another -/

/-- The first `g` groups of a value sequence, packed. -/
def packedGroups (W : Nat) (xs : List Slot) (g : Nat) : List Byte :=
  (List.range g).flatMap fun k => packGeneric W (groupOf xs k)

theorem packGroups_eq (W : Nat) (xs : List Slot) : packGroups W xs = packedGroups W xs ((xs.length + 7) / 8) := rfl

theorem packedGroups_succ (W : Nat) (xs : List Slot) (g : Nat) :
    packedGroups W xs (g + 1) = packedGroups W xs g ++ packGeneric W (groupOf xs g) := by
  rw [packedGroups, List.range_succ, List.flatMap_append, List.flatMap_singleton, packedGroups]

@[simp] theorem packedGroups_length (W : Nat) (xs : List Slot) (g : Nat) : (packedGroups W xs g).length = g * W := by
  induction g with
  | zero => rw [Nat.zero_mul]; rfl
  | succ g ih => rw [packedGroups_succ, List.length_append, ih, packGeneric_length, Nat.succ_mul]

/-- The first groups do not depend on how many follow. -/
theorem take_packedGroups (W : Nat) (xs : List Slot) {g n : Nat} (h : g ≤ n) :
    (packedGroups W xs n).take (g * W) = packedGroups W xs g := by
  obtain ⟨d, rfl⟩ := Nat.exists_eq_add_of_le h
  have split : packedGroups W xs (g + d) =
      packedGroups W xs g ++ ((List.range d).map (g + ·)).flatMap fun k => packGeneric W (groupOf xs k) := by
    rw [packedGroups, List.range_add, List.flatMap_append, packedGroups]
  rw [split]
  exact List.take_left' (packedGroups_length W xs g)

theorem groupOf_getElem (xs : List Slot) (k : Nat) (i : Fin 8) : (groupOf xs k)[i] = xs[8 * k + i.val]?.getD 0 := by
  simp [groupOf]

/-- A group is decided by the values up to its last lane. -/
theorem groupOf_congr {xs ys : List Slot} {g k : Nat} (same : xs.take (8 * g) = ys.take (8 * g)) (hk : k < g) :
    groupOf xs k = groupOf ys k := by
  refine Vector.ext fun i hi => ?_
  have inside : 8 * k + i < 8 * g := by omega
  have value : xs[8 * k + i]? = ys[8 * k + i]? := by
    rw [← List.getElem?_take_of_lt inside, same, List.getElem?_take_of_lt inside]
  simp only [groupOf, Vector.getElem_ofFn, value]

theorem packedGroups_congr {W : Nat} {xs ys : List Slot} {g : Nat} (same : xs.take (8 * g) = ys.take (8 * g)) :
    packedGroups W xs g = packedGroups W ys g :=
  List.flatMap_congr fun _ hk => by rw [groupOf_congr same (List.mem_range.mp hk)]

/-- The packed groups hold the bytes of all the values. -/
theorem ceil8_le_packGroups_length (W : Nat) (xs : List Slot) : ceil8 (xs.length * W) ≤ (packGroups W xs).length := by
  rw [packGroups_eq, packedGroups_length, ceil8_le_iff, ← Nat.mul_assoc]
  exact Nat.mul_le_mul_right W (by omega)

theorem packSeq_length (W : Nat) (xs : List Slot) : (packSeq W xs).length = ceil8 (xs.length * W) :=
  List.length_take_of_le (ceil8_le_packGroups_length W xs)

/-- The byte sequence is the whole groups and the bytes of the values left over. -/
theorem packSeq_eq (W : Nat) (xs : List Slot) :
    packSeq W xs = packedGroups W xs (xs.length / 8) ++
      (packGeneric W (groupOf xs (xs.length / 8))).take (ceil8 (xs.length % 8 * W)) := by
  rw [packSeq, packGroups_eq, ceil8_mul_eq]
  by_cases aligned : xs.length % 8 = 0
  · have groups : (xs.length + 7) / 8 = xs.length / 8 := by omega
    have none_left : ceil8 (0 * W) = 0 := by rw [Nat.zero_mul]; rfl
    rw [groups, aligned, none_left, List.take_zero, List.append_nil, Nat.add_zero, take_packedGroups W xs le_rfl]
  · have groups : (xs.length + 7) / 8 = xs.length / 8 + 1 := by omega
    rw [groups, packedGroups_succ, List.take_append, packedGroups_length, Nat.add_sub_cancel_left,
      List.take_of_length_le (by rw [packedGroups_length]; exact Nat.le_add_right _ _)]

/-- Whole groups at the front of a value sequence are at the front of its byte sequence (R161 L3). -/
theorem take_packSeq {W g : Nat} {xs : List Slot} (groups : 8 * g ≤ xs.length) :
    (packSeq W xs).take (g * W) = packedGroups W xs g := by
  have inside : g * W ≤ ceil8 (xs.length * W) :=
    le_ceil8_of_le (by rw [← Nat.mul_assoc]; exact Nat.mul_le_mul_right W groups)
  rw [packSeq, List.take_take, Nat.min_eq_left inside, packGroups_eq, take_packedGroups W xs (by omega)]

/-- Settles O56. -/
theorem groupAlignmentAndLocality : Obligations.GroupAlignmentAndLocality := by
  refine fun W xs ys _ _ => ⟨fun aligned => ?_, fun g inXs inYs same => ?_⟩
  · have bytes : ceil8 (xs.length * W) = xs.length / 8 * W := by
      rw [ceil8_mul_eq, aligned, Nat.zero_mul]
      rfl
    have whole : (packGroups W xs).length = xs.length / 8 * W := by
      rw [packGroups_eq, packedGroups_length]
      congr 1
      omega
    exact ⟨List.take_of_length_le (whole.trans bytes.symm).le, (packSeq_length W xs).trans bytes⟩
  · rw [take_packSeq inXs, take_packSeq inYs, packedGroups_congr same]

/-! ## The number of a byte sequence -/

theorem numberOfDigits_append (w : Nat) (ds es : List Nat) :
    numberOfDigits w (ds ++ es) = numberOfDigits w ds * 2 ^ (w * es.length) + numberOfDigits w es := by
  induction es using List.reverseRecOn with
  | nil => simp [numberOfDigits]
  | append_singleton es e ih =>
    rw [← List.append_assoc, numberOfDigits_concat, ih, numberOfDigits_concat, List.length_append,
      List.length_singleton, Nat.mul_succ, Nat.pow_add]
    ring

theorem bytesNumber_append (bs cs : List Byte) :
    bytesNumber (bs ++ cs) = bytesNumber bs * 2 ^ (8 * cs.length) + bytesNumber cs := by
  rw [bytesNumber_eq, List.map_append, numberOfDigits_append, List.length_map, bytesNumber_eq, bytesNumber_eq]

/-- Cutting bytes off is a shift of the number. -/
theorem bytesNumber_take {m : Nat} (bs : List Byte) :
    bytesNumber (bs.take m) = bytesNumber bs / 2 ^ (8 * (bs.length - m)) := by
  have rest_lt : bytesNumber (bs.drop m) < 2 ^ (8 * (bs.length - m)) := by
    simpa [bytesNumber_eq] using numberOfDigits_lt (bytes_lt (bs.drop m))
  have split := bytesNumber_append (bs.take m) (bs.drop m)
  rw [List.take_append_drop, List.length_drop] at split
  rw [split, Nat.add_comm, Nat.add_mul_div_right _ _ (Nat.two_pow_pos _), Nat.div_eq_of_lt rest_lt, Nat.zero_add]

/-- The first `m` values of a sequence as numbers, zero where it has ended. -/
def valueDigits (xs : List Slot) (m : Nat) : List Nat := (List.range m).map fun i => (xs[i]?.getD 0).toNat

@[simp] theorem valueDigits_length (xs : List Slot) (m : Nat) : (valueDigits xs m).length = m := by
  simp [valueDigits]

section
variable {W : Nat} {xs : List Slot}

theorem getD_lt (fit : ∀ x ∈ xs, x.toNat < 2 ^ W) (i : Nat) : (xs[i]?.getD 0).toNat < 2 ^ W := by
  cases value : xs[i]? with
  | some x => exact fit x (List.mem_of_getElem? value)
  | none => exact Nat.two_pow_pos W

theorem valueDigits_lt (fit : ∀ x ∈ xs, x.toNat < 2 ^ W) (m : Nat) : ∀ d ∈ valueDigits xs m, d < 2 ^ W := by
  intro d listed
  obtain ⟨i, -, rfl⟩ := List.mem_map.mp listed
  exact getD_lt fit i

theorem lanesFit_groupOf (fit : ∀ x ∈ xs, x.toNat < 2 ^ W) (k : Nat) : lanesFit W (groupOf xs k) = true :=
  lanesFit_iff.mpr fun i => by
    rw [groupOf_getElem]
    exact getD_lt fit _

/-- The lanes of group `g` are the eight values after the first `8 * g`. -/
theorem valueDigits_add_eight (xs : List Slot) (g : Nat) :
    valueDigits xs (8 * g + 8) = valueDigits xs (8 * g) ++ (groupOf xs g).toList.map BitVec.toNat := by
  rw [valueDigits, List.range_add, List.map_append, List.map_map, valueDigits]
  rfl

/-- The bytes of packed groups and their values are the digits of one number (R92, R161 L7). -/
theorem bytesNumber_packedGroups (fit : ∀ x ∈ xs, x.toNat < 2 ^ W) (g : Nat) :
    bytesNumber (packedGroups W xs g) = numberOfDigits W (valueDigits xs (8 * g)) := by
  induction g with
  | zero => rfl
  | succ g ih =>
    rw [packedGroups_succ, bytesNumber_append, ih, bytesNumber_packGeneric (lanesFit_groupOf fit g), groupNumber_eq,
      Nat.mul_succ, valueDigits_add_eight, numberOfDigits_append, packGeneric_length, List.length_map,
      Vector.length_toList, Nat.mul_comm 8 W]

/-- The reference decoder's digit `i` of a byte sequence is value `i`. -/
theorem bytesNumber_packSeq_digit (fit : ∀ x ∈ xs, x.toNat < 2 ^ W) {i : Nat} (hi : i < xs.length) :
    bytesNumber (packSeq W xs) / 2 ^ (8 * (packSeq W xs).length - (i + 1) * W) % 2 ^ W = (xs[i]).toNat := by
  have hi' : i < 8 * ((xs.length + 7) / 8) := by omega
  have value : (i + 1) * W ≤ xs.length * W := Nat.mul_le_mul_right W hi
  have cut := ceil8_le_packGroups_length W xs
  have bytes : xs.length * W ≤ 8 * ceil8 (xs.length * W) := ceil8_le_iff.mp le_rfl
  have digits : W * ((valueDigits xs (8 * ((xs.length + 7) / 8))).length - 1 - i) =
      8 * (packGroups W xs).length - (i + 1) * W := by
    rw [valueDigits_length, packGroups_eq, packedGroups_length, Nat.mul_comm W, Nat.sub_sub, Nat.sub_mul,
      Nat.add_comm 1 i, Nat.mul_assoc]
  have shift : 8 * ((packGroups W xs).length - ceil8 (xs.length * W)) + (8 * ceil8 (xs.length * W) - (i + 1) * W) =
      W * ((valueDigits xs (8 * ((xs.length + 7) / 8))).length - 1 - i) := by
    rw [digits]
    omega
  rw [packSeq_length, packSeq, bytesNumber_take, Nat.div_div_eq_div_mul, ← Nat.pow_add, shift, packGroups_eq,
    bytesNumber_packedGroups fit, numberOfDigits_digit (valueDigits_lt fit _) (by rwa [valueDigits_length])]
  simp [valueDigits, hi]

end

/-- Settles O55. -/
theorem decoderRecoversValues : Obligations.DecoderRecoversValues := by
  intro W xs _ _ fit
  refine ⟨packSeq_length W xs, List.ext_getElem (by simp [unpackSeq]) fun i hi _ => ?_⟩
  have hi : i < xs.length := by simpa [unpackSeq] using hi
  simp only [unpackSeq, List.getElem_map, List.getElem_range]
  exact bytesNumber_packSeq_digit fit hi

end Sys2Proof.Machine
end

section
/-! SUPPORT. A whole session (spec/46_encoder_commands.md R161 L0, L1, L8). `SessionOf` says what the machine holds of
the values written so far: the full groups packed in the slabs, the rest in the input register. NEW establishes it,
every WRITE keeps it or finds the store full, and FINISH turns it into the closed form. -/

namespace Sys2Proof.Machine

/-! ## The bytes of the groups packed so far -/

/-- The bytes of the groups packed so far, in the order of the byte sequence: what it would be with the tail cut at the
group position. -/
def packedSeq (s : State) : List (Option Byte) := outSeq { s with tailLen := s.slabPos }

/-- The store `m` holds what the store of `s` holds below the group position. -/
def KeepsPacked (s : State) (m : Memory) : Prop :=
  ∀ a < groupAddr s, m.read s.params.slabSize a = readByte s a

section
variable {s : State} {m : Memory}

/-- A byte of a frozen slab lies below the group position. -/
theorem slabAddr_frozen_lt {k o : Nat} (hk : k < s.frozenCnt) (ho : o < s.params.fill s.width) :
    slabAddr s k o < groupAddr s := by
  have inside := ho.trans_le (s.params.fill_le_slabSize s.width)
  have slabs := Nat.mul_le_mul_right s.params.slabSize (Nat.succ_le_of_lt hk)
  rw [Nat.succ_mul] at slabs
  rw [slabAddr, groupAddr_eq]
  omega

theorem slabAddr_current_lt {o : Nat} (ho : o < s.slabPos) : slabAddr s s.frozenCnt o < groupAddr s :=
  Nat.add_lt_add_left ho _

/-- Behind the groups packed so far the tail goes on in the current slab. -/
theorem outSeq_tail (low : 1 ≤ s.width) (fits : s.width ≤ s.params.slabSize) (keeps : KeepsPacked s m) (n : Nat) :
    outSeq { s with mem := m, tailLen := s.slabPos + n } =
      packedSeq s ++ (List.range n).map fun o => m.read s.params.slabSize (groupAddr s + o) := by
  rw [packedSeq, outSeqConcatenatesSlabs _ (by exact low) (by exact fits),
    outSeqConcatenatesSlabs { s with tailLen := s.slabPos } low fits, State.tailLen_mk, List.range_add, List.map_append,
    ← List.append_assoc]
  congr 1
  · congr 1
    · exact List.flatMap_congr fun k hk => List.map_congr_left fun o ho =>
        keeps _ (slabAddr_frozen_lt (List.mem_range.mp hk) (List.mem_range.mp ho))
    · exact List.map_congr_left fun o ho => keeps _ (slabAddr_current_lt (List.mem_range.mp ho))
  · rw [List.map_map]
    exact List.map_congr_left fun o _ => congrArg _ (Nat.add_assoc _ _ _).symm

/-- A full slab that is frozen gives the byte sequence what it gave as the tail. -/
theorem outSeq_frozen (low : 1 ≤ s.width) (fits : s.width ≤ s.params.slabSize) (keeps : KeepsPacked s m)
    (full : s.slabPos = s.params.fill s.width) :
    outSeq { s with mem := m, frozenCnt := s.frozenCnt + 1, tailLen := 0 } = packedSeq s := by
  rw [packedSeq, outSeqConcatenatesSlabs _ (by exact low) (by exact fits),
    outSeqConcatenatesSlabs { s with tailLen := s.slabPos } low fits, State.frozenCnt_mk, List.range_succ,
    List.flatMap_append, List.flatMap_singleton, List.range_zero, List.map_nil, List.append_nil]
  congr 1
  · exact List.flatMap_congr fun k hk => List.map_congr_left fun o ho =>
      keeps _ (slabAddr_frozen_lt (List.mem_range.mp hk) (List.mem_range.mp ho))
  · rw [State.tailLen_mk, full]
    exact List.map_congr_left fun o ho => keeps _ (slabAddr_current_lt (full ▸ List.mem_range.mp ho))

end

section
variable {s : State}

theorem keepsPacked_groupStored (c : Nat) (v : Slots) (s : State) : KeepsPacked s (groupStored c v s).mem :=
  fun _ below => Memory.read_group_outside s.mem v (.inl below)

/-- The first bytes of a stored group follow those of the groups before it. -/
theorem outSeq_groupStored (low : 1 ≤ s.width) (fits : s.width ≤ s.params.slabSize) (c : Nat) (v : Slots) {n : Nat}
    (hn : n ≤ s.width) :
    outSeq { groupStored c v s with tailLen := s.slabPos + n } =
      packedSeq s ++ ((packGeneric s.width v).take n).map some := by
  refine ((outSeq_congr rfl rfl rfl rfl rfl).trans
    (outSeq_tail low fits (keepsPacked_groupStored c v s) n)).trans (congrArg _ ?_)
  refine List.ext_getElem (by simp [hn]) fun o ho _ => ?_
  have ho : o < n := by simpa using ho
  have byte := Memory.read_group_inside (S := s.params.slabSize) (a := groupAddr s) s.mem v (ho.trans_le hn)
  rw [List.getElem?_eq_getElem (by simpa using ho.trans_le hn)] at byte
  rw [List.getElem_map, List.getElem_map, List.getElem_range, List.getElem_take]
  exact byte

theorem packedSeq_groupStored (low : 1 ≤ s.width) (fits : s.width ≤ s.params.slabSize) (c : Nat) (v : Slots) :
    packedSeq (groupStored c v s) = packedSeq s ++ (packGeneric s.width v).map some := by
  have stored := outSeq_groupStored low fits c v le_rfl
  rwa [List.take_of_length_le (packGeneric_length _ _).le] at stored

/-- A rotation of a full slab keeps the bytes of the packed groups (R142). -/
theorem packedSeq_rotated (low : 1 ≤ s.width) (fits : s.width ≤ s.params.slabSize)
    (full : s.slabPos = s.params.fill s.width) :
    packedSeq { s with frozenCnt := s.frozenCnt + 1, slabPos := 0,
                       mem := s.mem.zeroSlab s.params.slabSize (s.frozenCnt + 1) } = packedSeq s := by
  have inside : s.slabPos ≤ s.params.slabSize := full ▸ s.params.fill_le_slabSize s.width
  have keeps : KeepsPacked s (s.mem.zeroSlab s.params.slabSize (s.frozenCnt + 1)) :=
    fun _ below => Memory.read_zeroSlab_succ_below s.mem inside below
  exact (outSeq_congr rfl rfl rfl rfl rfl).trans (outSeq_frozen low fits keeps full)

end

/-! ## The input register -/

/-- A value more does not touch the groups that were full before. -/
theorem packedGroups_concat (W : Nat) (xs : List Slot) (v : Slot) :
    packedGroups W (xs ++ [v]) (xs.length / 8) = packedGroups W xs (xs.length / 8) :=
  packedGroups_congr (List.take_append_of_le_length (by omega))

/-- The slot WRITE fills is the next lane of the group being collected (R152). -/
theorem set_slot_eq_group {c : Nat} {u : Slots} {xs : List Slot} (hc : c < 8) (count : c = xs.length % 8) (v : Slot)
    (waiting : ∀ i : Fin 8, i.val < c → u[i] = (groupOf xs (xs.length / 8))[i]) (i : Fin 8) (hi : i.val < c + 1) :
    (u.set c v hc)[i] = (groupOf (xs ++ [v]) (xs.length / 8))[i] := by
  rw [getElem_set_slot, groupOf_getElem]
  split
  next last =>
    have position : 8 * (xs.length / 8) + i.val = xs.length := by omega
    simp [position]
  next before =>
    have position : 8 * (xs.length / 8) + i.val < xs.length := by omega
    rw [waiting i (by omega), groupOf_getElem, List.getElem?_append_left position]

/-- The zero-filled register is the last, incomplete group (R154, R161 L0). -/
theorem zeroFrom_eq_group {c : Nat} {u : Slots} {xs : List Slot} (count : c = xs.length % 8)
    (waiting : ∀ i : Fin 8, i.val < c → u[i] = (groupOf xs (xs.length / 8))[i]) :
    zeroFrom c u = groupOf xs (xs.length / 8) := by
  refine Vector.ext fun i hi => ?_
  refine (zeroFrom_getElem_fin c u ⟨i, hi⟩).trans ?_
  split
  next waits => exact waiting ⟨i, hi⟩ waits
  next past =>
    have ended : xs.length ≤ 8 * (xs.length / 8) + i := by
      have : c ≤ i := Nat.not_lt.mp past
      omega
    simp [groupOf, List.getElem?_eq_none ended]

/-! ## The session -/

/-- The machine is in phase Open at width `W` and has been given the values `xs`. -/
structure SessionOf (W : Nat) (xs : List Slot) (s : State) : Prop where
  inv : restInv s
  opened : s.phase = .opened
  noGrant : s.grant = false
  width : s.width = W
  count : s.totalValues.toNat + s.inCnt.toNat = xs.length
  packed : packedSeq s = (packedGroups W xs (xs.length / 8)).map some
  waiting : ∀ i : Fin 8, i.val < s.inCnt.toNat → s.inReg[i] = (groupOf xs (xs.length / 8))[i]

section
variable {W : Nat} {xs : List Slot} {s : State}

theorem SessionOf.openInv (h : SessionOf W xs s) : openInv s :=
  (phaseInv_of_opened h.opened).mp (restInv_iff.mp h.inv).2

/-- Taking the word presented is outside the session. -/
theorem SessionOf.take (h : SessionOf W xs s) (cs : List CmdWord) : SessionOf W xs { s with cmds := cs } :=
  ⟨restInv_ports s.grant cs s.responses h.inv, h.opened, h.noGrant, h.width, h.count, h.packed, h.waiting⟩

theorem SessionOf.width_fits (h : SessionOf W xs s) :
    1 ≤ s.width ∧ s.width ≤ 32 ∧ s.width ≤ s.params.slabSize := by
  obtain ⟨⟨low, high, -⟩, -⟩ := h.openInv
  obtain ⟨large, -, -⟩ := (restInv_iff.mp h.inv).1.bounds
  exact ⟨low, high, high.trans large⟩

/-- The values that wait are those beyond the full groups, which are the packed ones. -/
theorem SessionOf.inCnt_eq (h : SessionOf W xs s) : s.inCnt.toNat = xs.length % 8 := by
  obtain ⟨-, -, register, -, total, -⟩ := h.openInv
  have count := h.count
  omega

/-- In phase Open the store has room for another group. -/
theorem SessionOf.groups_lt (h : SessionOf W xs s) : xs.length / 8 < s.params.maxSlabs * s.params.gps W := by
  obtain ⟨⟨low, -, -, slab, -⟩, -, register, room, total, -⟩ := h.openInv
  have count := h.count
  have current := Params.groups_lt_gps low room
  rw [← h.width]
  calc xs.length / 8
      = s.frozenCnt * s.params.gps s.width + s.slabPos / s.width := by omega
    _ < (s.frozenCnt + 1) * s.params.gps s.width := by rw [Nat.succ_mul]; omega
    _ ≤ s.params.maxSlabs * s.params.gps s.width := Nat.mul_le_mul_right _ slab

/-- Counting a group's values does not wrap (R160). -/
theorem SessionOf.totalValues_add (h : SessionOf W xs s) {c : Nat} (hc : c ≤ 8) :
    (s.totalValues + BitVec.ofNat 64 c).toNat = s.totalValues.toNat + c := by
  obtain ⟨⟨-, -, -, slab, -⟩, -, -, room, total, -⟩ := h.openInv
  obtain ⟨-, -, bound⟩ := (restInv_iff.mp h.inv).1.bounds
  rw [Sys2Proof.totalValues_add total (groups_le_storeBytes slab (by omega)) bound hc, total]

/-- NEW opens a session that has been given nothing (R151). -/
theorem sessionOf_new {w : BitVec 32} {rest : List CmdWord} (inv : restInv s) (noGrant : s.grant = false)
    (low : 1 ≤ w.toNat) (high : w.toNat ≤ 32) (presented : s.cmds = commandWord 1 w :: rest) :
    ∃ t, step s = .next t ∧ SessionOf w.toNat [] t ∧ t.params = s.params ∧ t.cmds = rest ∧
      t.responses = s.responses ++ [.done] := by
  have runs := step_of_command inv.1 noGrant presented (decode_encode (.new w))
  have completes := execNew_of (s := { s with cmds := rest }) inv.1 ((widthLegal_iff w).mpr ⟨low, high⟩)
  refine ⟨_, runs.trans completes, ⟨execNew_keeps_restInv (by exact inv) completes, rfl, noGrant,
    widthBits_toNat high, rfl, ?_, fun i hi => absurd hi (Nat.not_lt_zero _)⟩, rfl, rfl, rfl⟩
  simp [packedSeq, outSeq, packedGroups]

/-! ## WRITE in a session -/

theorem SessionOf.completesGroup {v : Slot} (h : SessionOf W xs s) (fits : v.toNat < 2 ^ W) (last : s.inCnt = 7) :
    CompletesGroup v s := by
  obtain ⟨⟨low, high, -, slab, -⟩, -, -, room, -, -, -, fit⟩ := h.openInv
  exact ⟨h.opened, h.width.symm ▸ fits, last, low, high, fun l hl => fit l (by rw [last]; exact hl), room, slab⟩

/-- The register that the eighth WRITE of a group fills is the group. -/
theorem SessionOf.fullRegister_eq {v : Slot} (h : SessionOf W xs s) (last : s.inCnt = 7) :
    s.inReg.set 7 v = groupOf (xs ++ [v]) (xs.length / 8) := by
  have seven : s.inCnt.toNat = 7 := congrArg BitVec.toNat last
  refine Vector.ext fun i hi => ?_
  exact set_slot_eq_group (by decide) (by rw [← h.inCnt_eq, seven]) v (seven ▸ h.waiting) ⟨i, hi⟩ hi

/-- After the group-pack step the whole groups of the values are packed. -/
theorem SessionOf.packedSeq_eighthStored {v : Slot} (h : SessionOf W xs s) (last : s.inCnt = 7) :
    packedSeq (eighthStored v s) = (packedGroups W (xs ++ [v]) ((xs ++ [v]).length / 8)).map some := by
  obtain ⟨low, -, fits⟩ := h.width_fits
  have seven : xs.length % 8 = 7 := by rw [← h.inCnt_eq, last]; rfl
  have groups : (xs ++ [v]).length / 8 = xs.length / 8 + 1 := by rw [List.length_append, List.length_singleton]; omega
  rw [eighthStored, packedSeq_groupStored low fits, h.packed, h.fullRegister_eq last, h.width, groups,
    packedGroups_succ, packedGroups_concat, List.map_append]

theorem SessionOf.totalValues_eighthStored {v : Slot} (h : SessionOf W xs s) (last : s.inCnt = 7) :
    (eighthStored v s).totalValues.toNat = xs.length + 1 := by
  have seven : s.inCnt.toNat = 7 := congrArg BitVec.toNat last
  have count := h.count
  exact (h.totalValues_add le_rfl).trans (by omega)

/-- A state with an empty register that has packed all its values. -/
theorem SessionOf.of_packed {t : State} {ys : List Slot} (inv : restInv t) (opened : t.phase = .opened)
    (noGrant : t.grant = false) (width : t.width = W) (empty : t.inCnt = 0) (total : t.totalValues.toNat = ys.length)
    (packed : packedSeq t = (packedGroups W ys (ys.length / 8)).map some) : SessionOf W ys t :=
  ⟨inv, opened, noGrant, width, by rw [empty]; exact total, packed, fun i hi => by simp [empty] at hi⟩

/-- What a WRITE of `v` leads to in a session: the session goes on with it, or the trap is taken, because the values now
fill all the groups the store holds (R143, R175). -/
def AfterWrite (W : Nat) (xs : List Slot) (v : Slot) (s t : State) : Prop :=
  t.params = s.params ∧ t.cmds = s.cmds ∧
    ((SessionOf W (xs ++ [v]) t ∧ t.responses = s.responses ++ [.done]) ∨
      (xs.length + 1 = 8 * (s.params.maxSlabs * s.params.gps W) ∧ t.phase = .faulted ∧ t.err = .noMem ∧
        t.totalValues.toNat = xs.length + 1 ∧ t.responses = s.responses))

/-- The trap is taken when the groups are as many as the store holds (R143, R175). -/
theorem totalValues_of_faulted {t : State} (inv : restInv t) (faulted : t.phase = .faulted) :
    t.totalValues.toNat = 8 * (t.params.maxSlabs * t.params.gps t.width) := by
  obtain ⟨-, -, -, -, -, total, -⟩ := (phaseInv_of_faulted faulted).mp (restInv_iff.mp inv).2
  exact total

/-- A WRITE that does not fill the register leaves its value waiting. -/
theorem SessionOf.write_slot {v : Slot} (h : SessionOf W xs s) (fits : v.toNat < 2 ^ W) (notLast : s.inCnt.toNat ≠ 7) :
    ∃ t, execWrite v s = .next t ∧ AfterWrite W xs v s t := by
  have cnt := h.inCnt_eq
  have hc : s.inCnt.toNat < 8 := by omega
  have length : (xs ++ [v]).length = xs.length + 1 := by simp
  have groups : (xs ++ [v]).length / 8 = xs.length / 8 := by omega
  have writes := execWrite_of_slot h.opened (h.width.symm ▸ fits) hc notLast
  refine ⟨_, writes, rfl, rfl, .inl ⟨⟨execWrite_keeps_restInv h.inv writes, h.opened, h.noGrant, h.width, ?_, ?_, ?_⟩,
    rfl⟩⟩
  · rw [State.totalValues_mk, State.inCnt_mk, inCnt_succ hc, length, ← h.count, Nat.add_assoc]
  · rw [groups, packedGroups_concat, ← h.packed]
    exact outSeq_congr rfl rfl rfl rfl rfl
  · rw [groups, State.inCnt_mk, inCnt_succ hc]
    exact set_slot_eq_group hc cnt v h.waiting

/-- A WRITE that fills the register packs it, and then goes on in the slab, rotates or traps. -/
theorem SessionOf.write_last {v : Slot} (h : SessionOf W xs s) (fits : v.toNat < 2 ^ W) (last : s.inCnt = 7) :
    ∃ t, execWrite v s = .next t ∧ AfterWrite W xs v s t := by
  have completes := h.completesGroup fits last
  have total := h.totalValues_eighthStored (v := v) last
  have total' : (eighthStored v s).totalValues.toNat = (xs ++ [v]).length := total.trans (by simp)
  have packed := h.packedSeq_eighthStored (v := v) last
  by_cases more : s.slabPos + s.width + s.width ≤ s.params.slabSize
  · have writes := execWrite_of_room completes more
    have inv' := execWrite_keeps_restInv h.inv writes
    exact ⟨_, writes, rfl, rfl, .inl ⟨.of_packed inv' h.opened h.noGrant h.width rfl total' packed, rfl⟩⟩
  have full : s.params.slabSize < s.slabPos + s.width + s.width := Nat.not_le.mp more
  by_cases lastSlab : s.frozenCnt + 1 = s.params.maxSlabs
  · have traps := execWrite_of_noFreeSlab completes full lastSlab
    have storeFull := totalValues_of_faulted (execWrite_keeps_restInv h.inv traps) rfl
    have groups : xs.length + 1 = 8 * (s.params.maxSlabs * s.params.gps W) := h.width ▸ total.symm.trans storeFull
    exact ⟨_, traps, rfl, rfl, .inr ⟨groups, rfl, rfl, total, rfl⟩⟩
  · have slab := completes.slab
    have writes := execWrite_of_rotation completes full (by omega)
    have inv' := execWrite_keeps_restInv h.inv writes
    obtain ⟨low, -, inSlab⟩ := h.width_fits
    obtain ⟨⟨-, -, aligned, -⟩, -⟩ := h.openInv
    have position : s.slabPos + s.width = s.params.fill s.width :=
      (Params.fill_eq_of_full (by rwa [Nat.add_mod_right]) completes.room full).2
    have rotated := packedSeq_rotated (s := eighthStored v s) low inSlab position
    exact ⟨_, writes, rfl, rfl,
      .inl ⟨.of_packed inv' h.opened h.noGrant h.width rfl total' (rotated.trans packed), rfl⟩⟩

/-- A WRITE of a value that fits is never a violation in a session (R152). -/
theorem SessionOf.write {v : Slot} (h : SessionOf W xs s) (fits : v.toNat < 2 ^ W) :
    ∃ t, execWrite v s = .next t ∧ AfterWrite W xs v s t := by
  by_cases last : s.inCnt = 7
  · exact h.write_last fits last
  · exact h.write_slot fits fun seven => last (BitVec.eq_of_toNat_eq seven)

/-- The next WRITE presented, as a step. -/
theorem SessionOf.step_write {v : Slot} {rest : List CmdWord} (h : SessionOf W xs s) (fits : v.toNat < 2 ^ W)
    (presented : s.cmds = commandWord 2 v :: rest) :
    ∃ t, step s = .next t ∧ AfterWrite W xs v { s with cmds := rest } t := by
  obtain ⟨t, writes, after⟩ := (h.take rest).write fits
  exact ⟨t, (step_of_command h.inv.1 h.noGrant presented (decode_encode (.write v))).trans writes, after⟩

/-- WRITEs presented one after another, with room for their groups, all complete. -/
theorem SessionOf.run_writes {rest : List CmdWord} (vs : List Slot) {xs : List Slot} {s : State} (h : SessionOf W xs s)
    (fits : ∀ v ∈ vs, v.toNat < 2 ^ W) (presented : s.cmds = vs.map (commandWord 2) ++ rest)
    (room : (xs.length + vs.length) / 8 < s.params.maxSlabs * s.params.gps W) :
    ∃ t, Sys2Proof.core.run vs.length s = .next t ∧ SessionOf W (xs ++ vs) t ∧ t.params = s.params ∧ t.cmds = rest ∧
      t.responses = s.responses ++ List.replicate vs.length .done := by
  induction vs generalizing xs s with
  | nil => exact ⟨s, rfl, by rwa [List.append_nil], rfl, presented, by simp⟩
  | cons v vs ih =>
    rw [List.length_cons] at room
    obtain ⟨u, first, params, cmds, ⟨session, response⟩ | ⟨full, -⟩⟩ :=
      h.step_write (fits v (List.mem_cons_self ..)) presented
    · obtain ⟨t, run, session', params', cmds', responses⟩ :=
        ih session (fun x hx => fits x (List.mem_cons_of_mem v hx)) cmds (by
          rw [params, List.length_append, List.length_singleton, Nat.add_assoc, Nat.add_comm 1]
          exact room)
      refine ⟨t, (run_succ_of_next first).trans run, by rwa [List.append_assoc] at session', params'.trans params,
        cmds', ?_⟩
      rw [responses, response, List.append_assoc]
      rfl
    · have full : xs.length + 1 = 8 * (s.params.maxSlabs * s.params.gps W) := full
      omega

/-! ## FINISH in a session -/

/-- FINISH leaves the closed form as the byte sequence, whether values wait or not (R154, R161 L0). -/
theorem SessionOf.finish_outSeq (h : SessionOf W xs s) :
    ∃ t, execFinish s = .next t ∧ t.phase = .finalized ∧ t.cmds = s.cmds ∧ t.width = W ∧
      t.totalValues.toNat = xs.length ∧ outSeq t = (packSeq W xs).map some := by
  obtain ⟨low, high, inSlab⟩ := h.width_fits
  obtain ⟨⟨-, -, -, slab, -⟩, -, -, room, -, -, -, fit⟩ := h.openInv
  have cnt := h.inCnt_eq
  have count := h.count
  by_cases empty : s.inCnt = 0
  · have none : s.inCnt.toNat = 0 := congrArg BitVec.toNat empty
    have aligned : xs.length % 8 = 0 := by omega
    refine ⟨_, execFinish_of_empty h.opened empty, rfl, rfl, h.width, by rw [← count, none]; rfl, ?_⟩
    refine ((outSeq_congr rfl rfl rfl rfl rfl).trans h.packed).trans ?_
    rw [packSeq_eq, aligned, Nat.zero_mul, ceil8, List.take_zero, List.append_nil]
  · have waits : 0 < s.inCnt.toNat := Nat.pos_of_ne_zero fun none => empty (BitVec.eq_of_toNat_eq none)
    have few : s.inCnt.toNat ≤ 8 := by omega
    refine ⟨_, execFinish_of_waiting h.opened waits low high fit room slab, rfl, rfl, h.width,
      (h.totalValues_add few).trans count, ?_⟩
    have stored := outSeq_groupStored low inSlab s.inCnt.toNat (zeroFrom s.inCnt.toNat s.inReg)
      (ceil8_mul_le (W := s.width) few)
    refine ((outSeq_congr rfl rfl rfl rfl rfl).trans stored).trans ?_
    rw [h.packed, zeroFrom_eq_group cnt h.waiting, cnt, h.width, packSeq_eq, List.map_append]

/-- The FINISH presented, as a step: its response is the length of the byte sequence (R161 L1). -/
theorem SessionOf.step_finish {rest : List CmdWord} (h : SessionOf W xs s)
    (presented : s.cmds = commandWord 3 0 :: rest) :
    ∃ t, step s = .next t ∧ t.phase = .finalized ∧ t.cmds = rest ∧ outSeq t = (packSeq W xs).map some ∧
      outLen t = ceil8 (xs.length * W) ∧ t.totalValues.toNat = xs.length ∧
      t.responses = s.responses ++ [.size (BitVec.ofNat 64 (ceil8 (xs.length * W)))] := by
  have h' := h.take rest
  obtain ⟨t, finishes, final, cmds, width, total, seq⟩ := h'.finish_outSeq
  obtain ⟨len, responses, -⟩ := finishSizeIsReportedSize _ t h'.inv finishes
  rw [total, width] at len
  exact ⟨t, (step_of_command h.inv.1 h.noGrant presented (decode_encode .finish)).trans finishes, final, cmds, seq, len,
    total, len ▸ responses⟩

end

/-! ## Whole sessions -/

/-- Settles O53: NEW, the WRITEs, which all have room, and FINISH. -/
theorem sessionEncodesItsValues : Obligations.SessionEncodesItsValues := by
  intro s w xs rest inv noGrant low high fits room presented
  rw [encodeStream, List.cons_append, List.append_assoc] at presented
  obtain ⟨u, first, opened, params, cmds, response⟩ := sessionOf_new inv noGrant low high presented
  obtain ⟨z, writes, session, -, cmds', responses⟩ :=
    opened.run_writes xs fits cmds (by rwa [params, List.length_nil, Nat.zero_add])
  obtain ⟨t, last, final, cmds'', seq, len, total, size⟩ := session.step_finish cmds'
  refine ⟨t, (run_succ_of_next first).trans (run_succ_of_last writes last), final, cmds'', seq, len, total, ?_⟩
  rw [size, responses, response, List.append_assoc, List.append_assoc, List.replicate_succ]
  rfl

/-- Settles O54: all WRITEs but the last have room; after the last, phase Open would need room for one group more. -/
theorem sessionTrapsWhenStoreIsFull : Obligations.SessionTrapsWhenStoreIsFull := by
  intro s w xs rest inv noGrant low high fits full presented
  obtain ⟨large, slabs, -⟩ := (restInv_iff.mp inv).1.bounds
  have groups : 0 < s.params.maxSlabs * s.params.gps w.toNat :=
    Nat.mul_pos slabs (Nat.div_pos (high.trans large) low)
  obtain ⟨ys, v, rfl⟩ : ∃ ys v, xs = ys ++ [v] :=
    ⟨xs.dropLast, xs.getLast (List.ne_nil_of_length_pos (by omega)), (List.dropLast_concat_getLast _).symm⟩
  rw [List.length_append, List.length_singleton] at full ⊢
  rw [List.map_append, List.append_assoc] at presented
  obtain ⟨u, first, opened, params, cmds, response⟩ := sessionOf_new inv noGrant low high presented
  obtain ⟨z, writes, session, params', cmds', responses⟩ :=
    opened.run_writes ys (fun x hx => fits x (List.mem_append_left _ hx)) cmds
      (by rw [params, List.length_nil, Nat.zero_add]; omega)
  obtain ⟨t, last, params'', cmds'', ⟨session', -⟩ | ⟨-, faulted, err, total, responses'⟩⟩ :=
    session.step_write (fits v (by simp)) cmds'
  · have room := session'.groups_lt
    have same : t.params = s.params := params''.trans (params'.trans params)
    rw [same, List.length_append, List.length_append, List.length_singleton, List.length_nil, Nat.zero_add] at room
    omega
  · refine ⟨t, (run_succ_of_next first).trans (run_succ_of_last writes last), faulted, err, cmds'', total, ?_⟩
    rw [responses', State.responses_mk, responses, response, List.append_assoc, List.replicate_succ]
    rfl

end Sys2Proof.Machine
end

section
/-! SUPPORT. The trap NoMem and the violations (spec/60_exceptions.md R171 to R176). A WRITE traps exactly when it
completes a group that fills the last slab, whatever else holds of the state. Under the invariant a command stops exactly
by a violation of R172's table; one that meets none completes or traps. -/

namespace Sys2Proof.Machine

/-! ## Waiting -/

theorem step_of_idle {s : State} (legal : s.params.legal = true) (noGrant : s.grant = false) (idle : s.cmds = []) :
    step s = .next s := by
  simp [step, legal, fetch, noGrant, fetchCommand, idle]

/-- Settles O11. -/
theorem idleStepChangesNothing : Obligations.IdleStepChangesNothing := fun _ => step_of_idle

/-! ## The trap NoMem (R171, R175) -/

/-- Settles O31: the group is stored, and the trap changes `phase` and `err` only. -/
theorem writeTrapsNoMem : Obligations.WriteTrapsNoMem := by
  intro s v opened fits last low high waiting room full lastSlab
  have completes : CompletesGroup v s := ⟨opened, fits, last, low, high, waiting, room, by omega⟩
  have position (aligned : s.slabPos % s.width = 0) : s.slabPos + s.width = s.params.fill s.width :=
    (Params.fill_eq_of_full (by rwa [Nat.add_mod_right]) room full).2
  exact ⟨_, execWrite_of_noFreeSlab completes full lastSlab, rfl, rfl, rfl, position,
    execFinish_of_not_opened Phase.noConfusion, execDrain_of_not_final Phase.noConfusion,
    getElem_set_slot (by decide) s.inReg v, fun k => Memory.read_group_inside s.mem _,
    fun a => Memory.read_group_outside s.mem _⟩

/-- A WRITE that leads to phase Fault completed a group, filled its slab with it, and found no free slab (R171). -/
theorem execWrite_eq_faulted {s t : State} {v : BitVec 32} (h : execWrite v s = .next t) (faulted : t.phase = .faulted) :
    CompletesGroup v s ∧ s.params.slabSize < s.slabPos + s.width + s.width ∧ s.frozenCnt + 1 = s.params.maxSlabs := by
  obtain ⟨opened, fits, hc, ⟨-, rfl⟩ | ⟨seven, u, packed, rest⟩⟩ := execWrite_eq_next h
  · cases opened.symm.trans faulted
  obtain ⟨pack, engine, fit, room, -, rfl⟩ := packGroup_eq_ok packed
  rcases rest with ⟨-, rfl⟩ | ⟨-, -, -, rfl⟩ | ⟨full, lastSlab, -⟩
  · cases opened.symm.trans faulted
  · cases opened.symm.trans faulted
  · obtain ⟨low, high⟩ := engineOf_range engine
    have slab : s.frozenCnt < s.params.maxSlabs := Nat.lt_of_succ_le lastSlab.le
    refine ⟨⟨opened, fits, BitVec.eq_of_toNat_eq seven, low, high, fun l below => ?_, room, slab⟩, full, lastSlab⟩
    have lane := lanesFit_iff.mp fit l
    rwa [State.inReg_mk, getElem_set_slot hc, if_neg (by omega)] at lane

/-- By the transition table of R159, WRITE alone enters phase Fault. -/
theorem exists_write_of_enters_fault {s t : State} {i : Instr} (notFaulted : s.phase ≠ .faulted)
    (h : exec i s = .next t) (faulted : t.phase = .faulted) : ∃ v, i = .write v := by
  have table := phaseTransitionTable s t i h
  cases i with
  | write v => exact ⟨v, rfl⟩
  | new w => cases table.symm.trans faulted
  | finish => cases table.2.symm.trans faulted
  | drain => cases table.2.symm.trans faulted
  | rsize => exact absurd (table.2.symm.trans faulted) notFaulted
  | asize => exact absurd (table.2.symm.trans faulted) notFaulted
  | _ => exact absurd (table.symm.trans faulted) notFaulted

/-- Settles O43: a WRITE that traps does so under the conditions of O31, which says what the trap leaves. -/
theorem onlyWriteRaisesNoMem : Obligations.OnlyWriteRaisesNoMem := by
  intro s t i notFaulted h faulted
  obtain ⟨v, rfl⟩ := exists_write_of_enters_fault notFaulted h faulted
  obtain ⟨completes, full, lastSlab⟩ := execWrite_eq_faulted h faulted
  obtain ⟨t', traps, state, -, code, -, -, -, slots, group, others⟩ := writeTrapsNoMem s v completes.opened completes.fits
    completes.last completes.low completes.high completes.waiting completes.room full lastSlab
  cases h.symm.trans traps
  exact ⟨congrArg BitVec.toNat completes.last, full, lastSlab, code, state, ⟨v, rfl, slots⟩, group, others⟩

/-! ## Phase Fault (R176) -/

theorem exec_of_faulted {s : State} {i : Instr} (faulted : s.phase = .faulted) (command : i.engineWidth = none)
    (notNew : ∀ w, i ≠ .new w) : exec i s = .fault .pvPhase := by
  have notOpened : s.phase ≠ .opened := by simp [faulted]
  have notFinal : s.phase ≠ .finalized := by simp [faulted]
  cases i with
  | new w => exact absurd rfl (notNew w)
  | write v => exact (writeViolations s v).1 notOpened
  | finish => exact execFinish_of_not_opened notOpened
  | drain => exact execDrain_of_not_final notFinal
  | rsize => exact (rsizeAnswersReportedSize s).2 (.inr faulted)
  | asize => exact (asizeAnswersAllocatedSize s).2 (.inr faulted)
  | _ => cases command

/-- Settles O44: what completes in phase Fault is a NEW, and that opens a session. -/
theorem faultIsLeftOnlyByNew : Obligations.FaultIsLeftOnlyByNew := by
  intro s i faulted command
  refine ⟨exec_of_faulted faulted command, ?_, fun t h => ?_⟩
  · rintro w rfl legal low high
    exact ⟨_, execNew_of legal ((widthLegal_iff w).mpr ⟨low, high⟩), rfl, rfl⟩
  · by_cases new : ∃ w, i = .new w
    · obtain ⟨w, rfl⟩ := new
      obtain ⟨-, -, rfl⟩ := execNew_eq_next h
      exact ⟨rfl, rfl⟩
    · cases (exec_of_faulted faulted command (not_exists.mp new)).symm.trans h

/-! ## The violations (R172, R174) -/

section
variable (s : State)

/-! The table of R172, command by command. -/

theorem violation_new (w : BitVec 32) : violation (.new w) s = if widthLegal w then none else some .pvWidth := rfl

theorem violation_write (v : BitVec 32) :
    violation (.write v) s =
      if s.phase ≠ .opened then some .pvPhase else if valueFits v s then none else some .pvRange := rfl

theorem violation_finish : violation .finish s = if s.phase ≠ .opened then some .pvPhase else none := rfl

theorem violation_drain :
    violation .drain s =
      if s.phase ≠ .finalized then some .pvPhase else if outLen s ≤ s.outIdx.toNat then some .pvDrain else none := rfl

theorem violation_rsize : violation .rsize s = if sessionLive s then none else some .pvPhase := rfl
theorem violation_asize : violation .asize s = if sessionLive s then none else some .pvPhase := rfl

end

/-- A WRITE that completes a group completes or traps: the slab has room for more, or rotates, or is the last. -/
theorem CompletesGroup.exists_next {v : BitVec 32} {s : State} (h : CompletesGroup v s) :
    ∃ t, execWrite v s = .next t := by
  by_cases more : s.slabPos + s.width + s.width ≤ s.params.slabSize
  · exact ⟨_, execWrite_of_room h more⟩
  have full : s.params.slabSize < s.slabPos + s.width + s.width := Nat.not_le.mp more
  by_cases lastSlab : s.frozenCnt + 1 = s.params.maxSlabs
  · exact ⟨_, execWrite_of_noFreeSlab h full lastSlab⟩
  · exact ⟨_, execWrite_of_rotation h full (Nat.lt_of_le_of_ne h.slab lastSlab)⟩

/-- In phase Open a WRITE of a value that fits completes or traps. -/
theorem openInv.exists_next_write {v : BitVec 32} {s : State} (inv : openInv s) (opened : s.phase = .opened)
    (fits : v.toNat < 2 ^ s.width) : ∃ t, execWrite v s = .next t := by
  obtain ⟨⟨low, high, -, slab, -⟩, -, register, room, -, -, -, fit⟩ := inv
  by_cases last : s.inCnt = 7
  · exact CompletesGroup.exists_next
      ⟨opened, fits, last, low, high, fun l hl => fit l (by rw [last]; exact hl), room, slab⟩
  · exact ⟨_, execWrite_of_slot opened fits (by omega) fun seven => last (BitVec.eq_of_toNat_eq seven)⟩

/-- In phase Open FINISH completes. -/
theorem openInv.exists_next_finish {s : State} (inv : openInv s) (opened : s.phase = .opened) :
    ∃ t, execFinish s = .next t := by
  obtain ⟨⟨low, high, -, slab, -⟩, -, -, room, -, -, -, fit⟩ := inv
  by_cases empty : s.inCnt = 0
  · exact ⟨_, execFinish_of_empty opened empty⟩
  · have waits : 0 < s.inCnt.toNat := Nat.pos_of_ne_zero fun none => empty (BitVec.eq_of_toNat_eq none)
    exact ⟨_, execFinish_of_waiting opened waits low high fit room slab⟩

/-- In a state of the invariant a command meets a violation and stops with it, or meets none and answers a next state. -/
theorem exec_of_violation {s : State} {i : Instr} (inv : restInv s) (command : i.engineWidth = none) :
    (∃ f, violation i s = some f ∧ exec i s = .fault f) ∨ (violation i s = none ∧ ∃ t, exec i s = .next t) := by
  have openedInv (opened : s.phase = .opened) : openInv s := (phaseInv_of_opened opened).mp (restInv_iff.mp inv).2
  cases i with
  | new w =>
    rw [violation_new]
    cases width : widthLegal w with
    | false => exact .inl ⟨_, rfl, execNew_of_width_illegal width⟩
    | true => exact .inr ⟨rfl, _, execNew_of inv.1 width⟩
  | write v =>
    obtain ⟨outside, large, -⟩ := writeViolations s v
    rw [violation_write]
    by_cases opened : s.phase = .opened
    · rw [if_neg (not_not.mpr opened)]
      by_cases fits : v.toNat < 2 ^ s.width
      · exact .inr ⟨if_pos (decide_eq_true fits), (openedInv opened).exists_next_write opened fits⟩
      · exact .inl ⟨_, if_neg (by simpa [valueFits] using fits), large opened (Nat.not_lt.mp fits)⟩
    · exact .inl ⟨_, if_pos opened, outside opened⟩
  | finish =>
    rw [violation_finish]
    by_cases opened : s.phase = .opened
    · exact .inr ⟨if_neg (not_not.mpr opened), (openedInv opened).exists_next_finish opened⟩
    · exact .inl ⟨_, if_pos opened, execFinish_of_not_opened opened⟩
  | drain =>
    rw [violation_drain]
    by_cases final : s.phase = .finalized
    · rw [if_neg (not_not.mpr final)]
      by_cases atEnd : outLen s ≤ s.outIdx.toNat
      · exact .inl ⟨_, if_pos atEnd, execDrain_of_end final atEnd⟩
      · have left : s.outIdx.toNat < outLen s := Nat.not_le.mp atEnd
        obtain ⟨b, byte, -⟩ := outByte_of_final inv final left
        exact .inr ⟨if_neg atEnd, _, execDrain_of final left byte⟩
    · exact .inl ⟨_, if_pos final, execDrain_of_not_final final⟩
  | rsize =>
    rw [violation_rsize]
    cases live : sessionLive s with
    | false => exact .inl ⟨_, rfl, if_pos live⟩
    | true => exact .inr ⟨rfl, _, execRsize_of_live live⟩
  | asize =>
    rw [violation_asize]
    cases live : sessionLive s with
    | false => exact .inl ⟨_, rfl, if_pos live⟩
    | true => exact .inr ⟨rfl, _, execAsize_of_live live⟩
  | _ => cases command

/-- Settles O45: the two cases exclude each other; and a word that matches no row names no command. -/
theorem commandFaultsExactlyOnViolation : Obligations.CommandFaultsExactlyOnViolation := by
  intro s i inv command
  obtain ⟨-, refuses_iff_no_row, reserved_faults⟩ := reservedWordsFaultPvCmd
  have word_of_no_row (c : CmdWord) (cs : List CmdWord) (noGrant : s.grant = false) (presented : s.cmds = c :: cs)
      (unmatched : ∀ r ∈ opcodeTable, r.matchesWord (.command c) = false) : step s = .fault .pvCmd :=
    reserved_faults s c cs inv.1 noGrant presented ((refuses_iff_no_row c).mpr unmatched)
  rcases exec_of_violation inv command with ⟨g, meets, stops⟩ | ⟨meetsNone, t, completes⟩
  · exact ⟨fun f => by simp [stops, meets], fun meetsNone => by simp [meets] at meetsNone, word_of_no_row⟩
  · exact ⟨fun f => by simp [completes, meetsNone], fun _ => ⟨t, completes⟩, word_of_no_row⟩

end Sys2Proof.Machine
end
